-- ==== Sys2Proof/Word.lean ====
section
/-! DEFINITION. Bytes, 16-bit words, and the names of the operand tables of spec/30_encoding.md (R134 to R139). -/

namespace Sys2Proof

/-- The addressable unit: one byte of 8 bits (R5). -/
abbrev Byte := BitVec 8

/-- A register pair, SP, PC or an address: 16 bits (R5). -/
abbrev Word := BitVec 16

/-- The seven 8-bit registers that an instruction can name as an operand (R30, R134). -/
inductive Reg8
  | b | c | d | e | h | l | a
deriving DecidableEq, Repr

/-- The eight 8-bit operand locations `r8[i]`: a register, or the memory byte at HL (R134). -/
inductive Loc8
  | reg (r : Reg8)
  | atHL
deriving DecidableEq, Repr

/-- The register pairs `rp[p]` (R135). -/
inductive Pair
  | bc | de | hl | sp
deriving DecidableEq, Repr

/-- The register pairs `rp2[p]` of PUSH and POP (R136). -/
inductive StackPair
  | bc | de | hl | af
deriving DecidableEq, Repr

/-- The conditions `cc[i]` (R137). -/
inductive Cond
  | nz | z | nc | c
deriving DecidableEq, Repr

/-- The eight accumulator operations `alu[y]` (R138). -/
inductive AluOp
  | add | adc | sub | sbc | and | xor | or | cp
deriving DecidableEq, Repr

/-- The eight rotate and shift operations `rot[y]` (R139). -/
inductive RotOp
  | rlc | rrc | rl | rr | sla | sra | swap | srl
deriving DecidableEq, Repr

/-- The memory addresses that LD A,(…) and LD (…),A form from a register (R165 to R172, R175, R176). -/
inductive AddrReg
  | bc | de | hlInc | hlDec | highC
deriving DecidableEq, Repr

end Sys2Proof
end

