-- ==== Sys2Proof/Syntax.lean ====
section
/-! DEFINITION. The instructions: one constructor per row of spec/opcode_table.json (R149), those with an immediate first.
An argument `n` or `e` is the byte after the opcode, `nn` the 16-bit immediate (R130, R132). `At` stands for brackets: `ldAAtHL`
is LD A,(HL). The eleven `unrecognised` constructors are the bytes of R145. -/

namespace Sys2Proof

/-- An instruction, as the opcode table names it. -/
inductive Instr where
  -- with an immediate: 8-bit loads (spec/40_load8.md)
  | ldBN (n : Byte)
  | ldCN (n : Byte)
  | ldDN (n : Byte)
  | ldEN (n : Byte)
  | ldHN (n : Byte)
  | ldLN (n : Byte)
  | ldAtHLN (n : Byte)
  | ldAN (n : Byte)
  | ldhAtNA (n : Byte)
  | ldAtNNA (nn : Word)
  | ldhAAtN (n : Byte)
  | ldAAtNN (nn : Word)
  -- with an immediate: 16-bit loads and the stack (spec/41_load16_stack.md)
  | ldBCNN (nn : Word)
  | ldAtNNSP (nn : Word)
  | ldDENN (nn : Word)
  | ldHLNN (nn : Word)
  | ldSPNN (nn : Word)
  | ldHLSPPlusE (e : Byte)
  -- with an immediate: 8-bit arithmetic and logic (spec/42_alu8.md)
  | addAN (n : Byte)
  | adcAN (n : Byte)
  | subN (n : Byte)
  | sbcAN (n : Byte)
  | andN (n : Byte)
  | xorN (n : Byte)
  | orN (n : Byte)
  | cpN (n : Byte)
  -- with an immediate: 16-bit arithmetic (spec/43_alu16.md)
  | addSPE (e : Byte)
  -- with an immediate: control transfer (spec/45_control.md)
  | jr (e : Byte)
  | jrNZ (e : Byte)
  | jrZ (e : Byte)
  | jrNC (e : Byte)
  | jrC (e : Byte)
  | jpNZ (nn : Word)
  | jp (nn : Word)
  | callNZ (nn : Word)
  | jpZ (nn : Word)
  | callZ (nn : Word)
  | call (nn : Word)
  | jpNC (nn : Word)
  | callNC (nn : Word)
  | jpC (nn : Word)
  | callC (nn : Word)
  -- 8-bit loads (spec/40_load8.md)
  | ldAtBCA | ldAAtBC | ldAtDEA | ldAAtDE | ldAtHLIncA | ldAAtHLInc | ldAtHLDecA | ldAAtHLDec
  | ldBB | ldBC | ldBD | ldBE | ldBH | ldBL | ldBAtHL | ldBA
  | ldCB | ldCC | ldCD | ldCE | ldCH | ldCL | ldCAtHL | ldCA
  | ldDB | ldDC | ldDD | ldDE | ldDH | ldDL | ldDAtHL | ldDA
  | ldEB | ldEC | ldED | ldEE | ldEH | ldEL | ldEAtHL | ldEA
  | ldHB | ldHC | ldHD | ldHE | ldHH | ldHL | ldHAtHL | ldHA
  | ldLB | ldLC | ldLD | ldLE | ldLH | ldLL | ldLAtHL | ldLA
  | ldAtHLB | ldAtHLC | ldAtHLD | ldAtHLE | ldAtHLH | ldAtHLL | ldAtHLA | ldAB
  | ldAC | ldAD | ldAE | ldAH | ldAL | ldAAtHL | ldAA | ldAtHighCA
  | ldAAtHighC
  -- 16-bit loads and the stack (spec/41_load16_stack.md)
  | popBC | pushBC | popDE | pushDE | popHL | pushHL | popAF | pushAF
  | ldSPHL
  -- 8-bit arithmetic and logic (spec/42_alu8.md)
  | incB | decB | incC | decC | incD | decD | incE | decE
  | incH | decH | daa | incL | decL | cpl | incAtHL | decAtHL
  | scf | incA | decA | ccf | addAB | addAC | addAD | addAE
  | addAH | addAL | addAAtHL | addAA | adcAB | adcAC | adcAD | adcAE
  | adcAH | adcAL | adcAAtHL | adcAA | subB | subC | subD | subE
  | subH | subL | subAtHL | subA | sbcAB | sbcAC | sbcAD | sbcAE
  | sbcAH | sbcAL | sbcAAtHL | sbcAA | andB | andC | andD | andE
  | andH | andL | andAtHL | andA | xorB | xorC | xorD | xorE
  | xorH | xorL | xorAtHL | xorA | orB | orC | orD | orE
  | orH | orL | orAtHL | orA | cpB | cpC | cpD | cpE
  | cpH | cpL | cpAtHL | cpA
  -- 16-bit arithmetic (spec/43_alu16.md)
  | incBC | addHLBC | decBC | incDE | addHLDE | decDE | incHL | addHLHL
  | decHL | incSP | addHLSP | decSP
  -- rotates, shifts, bit operations (spec/44_rotate_shift_bit.md)
  | rlca | rrca | rla | rra | rlcB | rlcC | rlcD | rlcE
  | rlcH | rlcL | rlcAtHL | rlcA | rrcB | rrcC | rrcD | rrcE
  | rrcH | rrcL | rrcAtHL | rrcA | rlB | rlC | rlD | rlE
  | rlH | rlL | rlAtHL | rlA | rrB | rrC | rrD | rrE
  | rrH | rrL | rrAtHL | rrA | slaB | slaC | slaD | slaE
  | slaH | slaL | slaAtHL | slaA | sraB | sraC | sraD | sraE
  | sraH | sraL | sraAtHL | sraA | swapB | swapC | swapD | swapE
  | swapH | swapL | swapAtHL | swapA | srlB | srlC | srlD | srlE
  | srlH | srlL | srlAtHL | srlA | bit0B | bit0C | bit0D | bit0E
  | bit0H | bit0L | bit0AtHL | bit0A | bit1B | bit1C | bit1D | bit1E
  | bit1H | bit1L | bit1AtHL | bit1A | bit2B | bit2C | bit2D | bit2E
  | bit2H | bit2L | bit2AtHL | bit2A | bit3B | bit3C | bit3D | bit3E
  | bit3H | bit3L | bit3AtHL | bit3A | bit4B | bit4C | bit4D | bit4E
  | bit4H | bit4L | bit4AtHL | bit4A | bit5B | bit5C | bit5D | bit5E
  | bit5H | bit5L | bit5AtHL | bit5A | bit6B | bit6C | bit6D | bit6E
  | bit6H | bit6L | bit6AtHL | bit6A | bit7B | bit7C | bit7D | bit7E
  | bit7H | bit7L | bit7AtHL | bit7A | res0B | res0C | res0D | res0E
  | res0H | res0L | res0AtHL | res0A | res1B | res1C | res1D | res1E
  | res1H | res1L | res1AtHL | res1A | res2B | res2C | res2D | res2E
  | res2H | res2L | res2AtHL | res2A | res3B | res3C | res3D | res3E
  | res3H | res3L | res3AtHL | res3A | res4B | res4C | res4D | res4E
  | res4H | res4L | res4AtHL | res4A | res5B | res5C | res5D | res5E
  | res5H | res5L | res5AtHL | res5A | res6B | res6C | res6D | res6E
  | res6H | res6L | res6AtHL | res6A | res7B | res7C | res7D | res7E
  | res7H | res7L | res7AtHL | res7A | set0B | set0C | set0D | set0E
  | set0H | set0L | set0AtHL | set0A | set1B | set1C | set1D | set1E
  | set1H | set1L | set1AtHL | set1A | set2B | set2C | set2D | set2E
  | set2H | set2L | set2AtHL | set2A | set3B | set3C | set3D | set3E
  | set3H | set3L | set3AtHL | set3A | set4B | set4C | set4D | set4E
  | set4H | set4L | set4AtHL | set4A | set5B | set5C | set5D | set5E
  | set5H | set5L | set5AtHL | set5A | set6B | set6C | set6D | set6E
  | set6H | set6L | set6AtHL | set6A | set7B | set7C | set7D | set7E
  | set7H | set7L | set7AtHL | set7A
  -- control transfer (spec/45_control.md)
  | retNZ | rst00 | retZ | ret | rst08 | retNC | rst10 | retC
  | reti | rst18 | rst20 | jpHL | rst28 | rst30 | rst38
  -- system instructions and unrecognised bytes (spec/46_system.md)
  | nop | stop | halt | unrecognisedD3 | unrecognisedDB | unrecognisedDD | unrecognisedE3 | unrecognisedE4
  | unrecognisedEB | unrecognisedEC | unrecognisedED | di | unrecognisedF4 | ei | unrecognisedFC | unrecognisedFD
deriving DecidableEq, Repr

end Sys2Proof
end

