-- ==== Sys2Proof/WellFormed.lean ====
section
/-! DEFINITION. Which terms are instructions of the ISA. Operand widths are carried by the types, so one check is left: the
eleven unrecognised bytes stand in the opcode table and select no instruction (R145; log 20). -/

namespace Sys2Proof

/-- One of the eleven unrecognised opcode bytes (R145). -/
def Instr.isUnrecognised (i : Instr) : Bool :=
  match i with
  | .unrecognisedD3 => true
  | .unrecognisedDB => true
  | .unrecognisedDD => true
  | .unrecognisedE3 => true
  | .unrecognisedE4 => true
  | .unrecognisedEB => true
  | .unrecognisedEC => true
  | .unrecognisedED => true
  | .unrecognisedF4 => true
  | .unrecognisedFC => true
  | .unrecognisedFD => true
  | _ => false

/-- The term is an instruction of the ISA. -/
def Instr.wellFormed (i : Instr) : Bool := !i.isUnrecognised

/-- The eleven unrecognised opcode bytes (R145). -/
def unrecognisedBytes : List Byte := [0xD3, 0xDB, 0xDD, 0xE3, 0xE4, 0xEB, 0xEC, 0xED, 0xF4, 0xFC, 0xFD]

end Sys2Proof
end

