-- ==== Sys2Proof/Decode.lean ====
section
/-! DEFINITION. The decoder of spec/30_encoding.md, by the fields x, y, z, p, q of an opcode byte (R131, R133, R140 to R145), and
the encoder, written from the bytes of spec/opcode_table.json. Before them: the byte order (R101) and the sign extension (R16)
that the machine uses too, and the instructions named by their operand tables (R134 to R139). -/

namespace Sys2Proof

/-- The low byte of a 16-bit value. -/
def loByte (v : Word) : Byte := v.extractLsb' 0 8

/-- The high byte of a 16-bit value. -/
def hiByte (v : Word) : Byte := v.extractLsb' 8 8

/-- `hi ++ lo`, the 16-bit value with these halves (R15). -/
def joinBytes (hi lo : Byte) : Word := hi ++ lo

/-- `sext_16`: a byte read as a two's-complement number −128 to 127 (R16, R132). -/
def sext16 (e : Byte) : Word := e.signExtend 16

/-! The instructions by their operands, as the rules of R140 to R144 name them. -/

/-- LD r,r′ (R141, R160). -/
def Instr.ldRegReg (dst src : Reg8) : Instr :=
  match dst, src with
  | .b, .b => .ldBB
  | .b, .c => .ldBC
  | .b, .d => .ldBD
  | .b, .e => .ldBE
  | .b, .h => .ldBH
  | .b, .l => .ldBL
  | .b, .a => .ldBA
  | .c, .b => .ldCB
  | .c, .c => .ldCC
  | .c, .d => .ldCD
  | .c, .e => .ldCE
  | .c, .h => .ldCH
  | .c, .l => .ldCL
  | .c, .a => .ldCA
  | .d, .b => .ldDB
  | .d, .c => .ldDC
  | .d, .d => .ldDD
  | .d, .e => .ldDE
  | .d, .h => .ldDH
  | .d, .l => .ldDL
  | .d, .a => .ldDA
  | .e, .b => .ldEB
  | .e, .c => .ldEC
  | .e, .d => .ldED
  | .e, .e => .ldEE
  | .e, .h => .ldEH
  | .e, .l => .ldEL
  | .e, .a => .ldEA
  | .h, .b => .ldHB
  | .h, .c => .ldHC
  | .h, .d => .ldHD
  | .h, .e => .ldHE
  | .h, .h => .ldHH
  | .h, .l => .ldHL
  | .h, .a => .ldHA
  | .l, .b => .ldLB
  | .l, .c => .ldLC
  | .l, .d => .ldLD
  | .l, .e => .ldLE
  | .l, .h => .ldLH
  | .l, .l => .ldLL
  | .l, .a => .ldLA
  | .a, .b => .ldAB
  | .a, .c => .ldAC
  | .a, .d => .ldAD
  | .a, .e => .ldAE
  | .a, .h => .ldAH
  | .a, .l => .ldAL
  | .a, .a => .ldAA

/-- LD r,(HL) (R161). -/
def Instr.ldRegAtHL (dst : Reg8) : Instr :=
  match dst with
  | .b => .ldBAtHL
  | .c => .ldCAtHL
  | .d => .ldDAtHL
  | .e => .ldEAtHL
  | .h => .ldHAtHL
  | .l => .ldLAtHL
  | .a => .ldAAtHL

/-- LD (HL),r (R162). -/
def Instr.ldAtHLReg (src : Reg8) : Instr :=
  match src with
  | .b => .ldAtHLB
  | .c => .ldAtHLC
  | .d => .ldAtHLD
  | .e => .ldAtHLE
  | .h => .ldAtHLH
  | .l => .ldAtHLL
  | .a => .ldAtHLA

/-- LD r,n and LD (HL),n (R163, R164). -/
def Instr.ldLocImm (x : Loc8) (n : Byte) : Instr :=
  match x with
  | .reg .b => .ldBN n
  | .reg .c => .ldCN n
  | .reg .d => .ldDN n
  | .reg .e => .ldEN n
  | .reg .h => .ldHN n
  | .reg .l => .ldLN n
  | .atHL => .ldAtHLN n
  | .reg .a => .ldAN n

/-- LD (BC),A; LD (DE),A; LD (HL+),A; LD (HL−),A; LD (C),A (R165 to R168, R175). -/
def Instr.ldAtA (x : AddrReg) : Instr :=
  match x with
  | .bc => .ldAtBCA
  | .de => .ldAtDEA
  | .hlInc => .ldAtHLIncA
  | .hlDec => .ldAtHLDecA
  | .highC => .ldAtHighCA

/-- LD A,(BC); LD A,(DE); LD A,(HL+); LD A,(HL−); LD A,(C) (R169 to R172, R176). -/
def Instr.ldAAt (x : AddrReg) : Instr :=
  match x with
  | .bc => .ldAAtBC
  | .de => .ldAAtDE
  | .hlInc => .ldAAtHLInc
  | .hlDec => .ldAAtHLDec
  | .highC => .ldAAtHighC

/-- LD rr,nn (R200). -/
def Instr.ldPairImm (p : Pair) (nn : Word) : Instr :=
  match p with
  | .bc => .ldBCNN nn
  | .de => .ldDENN nn
  | .hl => .ldHLNN nn
  | .sp => .ldSPNN nn

/-- PUSH rr (R206). -/
def Instr.push (p : StackPair) : Instr :=
  match p with
  | .bc => .pushBC
  | .de => .pushDE
  | .hl => .pushHL
  | .af => .pushAF

/-- POP rr (R207). -/
def Instr.pop (p : StackPair) : Instr :=
  match p with
  | .bc => .popBC
  | .de => .popDE
  | .hl => .popHL
  | .af => .popAF

/-- The accumulator block on an operand location (R142). -/
def Instr.alu (op : AluOp) (x : Loc8) : Instr :=
  match op, x with
  | .add, .reg .b => .addAB
  | .add, .reg .c => .addAC
  | .add, .reg .d => .addAD
  | .add, .reg .e => .addAE
  | .add, .reg .h => .addAH
  | .add, .reg .l => .addAL
  | .add, .atHL => .addAAtHL
  | .add, .reg .a => .addAA
  | .adc, .reg .b => .adcAB
  | .adc, .reg .c => .adcAC
  | .adc, .reg .d => .adcAD
  | .adc, .reg .e => .adcAE
  | .adc, .reg .h => .adcAH
  | .adc, .reg .l => .adcAL
  | .adc, .atHL => .adcAAtHL
  | .adc, .reg .a => .adcAA
  | .sub, .reg .b => .subB
  | .sub, .reg .c => .subC
  | .sub, .reg .d => .subD
  | .sub, .reg .e => .subE
  | .sub, .reg .h => .subH
  | .sub, .reg .l => .subL
  | .sub, .atHL => .subAtHL
  | .sub, .reg .a => .subA
  | .sbc, .reg .b => .sbcAB
  | .sbc, .reg .c => .sbcAC
  | .sbc, .reg .d => .sbcAD
  | .sbc, .reg .e => .sbcAE
  | .sbc, .reg .h => .sbcAH
  | .sbc, .reg .l => .sbcAL
  | .sbc, .atHL => .sbcAAtHL
  | .sbc, .reg .a => .sbcAA
  | .and, .reg .b => .andB
  | .and, .reg .c => .andC
  | .and, .reg .d => .andD
  | .and, .reg .e => .andE
  | .and, .reg .h => .andH
  | .and, .reg .l => .andL
  | .and, .atHL => .andAtHL
  | .and, .reg .a => .andA
  | .xor, .reg .b => .xorB
  | .xor, .reg .c => .xorC
  | .xor, .reg .d => .xorD
  | .xor, .reg .e => .xorE
  | .xor, .reg .h => .xorH
  | .xor, .reg .l => .xorL
  | .xor, .atHL => .xorAtHL
  | .xor, .reg .a => .xorA
  | .or, .reg .b => .orB
  | .or, .reg .c => .orC
  | .or, .reg .d => .orD
  | .or, .reg .e => .orE
  | .or, .reg .h => .orH
  | .or, .reg .l => .orL
  | .or, .atHL => .orAtHL
  | .or, .reg .a => .orA
  | .cp, .reg .b => .cpB
  | .cp, .reg .c => .cpC
  | .cp, .reg .d => .cpD
  | .cp, .reg .e => .cpE
  | .cp, .reg .h => .cpH
  | .cp, .reg .l => .cpL
  | .cp, .atHL => .cpAtHL
  | .cp, .reg .a => .cpA

/-- The accumulator block on an immediate (R143). -/
def Instr.aluImm (op : AluOp) (n : Byte) : Instr :=
  match op with
  | .add => .addAN n
  | .adc => .adcAN n
  | .sub => .subN n
  | .sbc => .sbcAN n
  | .and => .andN n
  | .xor => .xorN n
  | .or => .orN n
  | .cp => .cpN n

/-- INC r and INC (HL) (R231, R232). -/
def Instr.inc (x : Loc8) : Instr :=
  match x with
  | .reg .b => .incB
  | .reg .c => .incC
  | .reg .d => .incD
  | .reg .e => .incE
  | .reg .h => .incH
  | .reg .l => .incL
  | .atHL => .incAtHL
  | .reg .a => .incA

/-- DEC r and DEC (HL) (R233, R234). -/
def Instr.dec (x : Loc8) : Instr :=
  match x with
  | .reg .b => .decB
  | .reg .c => .decC
  | .reg .d => .decD
  | .reg .e => .decE
  | .reg .h => .decH
  | .reg .l => .decL
  | .atHL => .decAtHL
  | .reg .a => .decA

/-- INC rr (R270). -/
def Instr.incPair (p : Pair) : Instr :=
  match p with
  | .bc => .incBC
  | .de => .incDE
  | .hl => .incHL
  | .sp => .incSP

/-- DEC rr (R271). -/
def Instr.decPair (p : Pair) : Instr :=
  match p with
  | .bc => .decBC
  | .de => .decDE
  | .hl => .decHL
  | .sp => .decSP

/-- ADD HL,rr (R272). -/
def Instr.addHLPair (p : Pair) : Instr :=
  match p with
  | .bc => .addHLBC
  | .de => .addHLDE
  | .hl => .addHLHL
  | .sp => .addHLSP

/-- The rotates and shifts of the 0xCB block (R144, R285 to R292). -/
def Instr.rot (op : RotOp) (x : Loc8) : Instr :=
  match op, x with
  | .rlc, .reg .b => .rlcB
  | .rlc, .reg .c => .rlcC
  | .rlc, .reg .d => .rlcD
  | .rlc, .reg .e => .rlcE
  | .rlc, .reg .h => .rlcH
  | .rlc, .reg .l => .rlcL
  | .rlc, .atHL => .rlcAtHL
  | .rlc, .reg .a => .rlcA
  | .rrc, .reg .b => .rrcB
  | .rrc, .reg .c => .rrcC
  | .rrc, .reg .d => .rrcD
  | .rrc, .reg .e => .rrcE
  | .rrc, .reg .h => .rrcH
  | .rrc, .reg .l => .rrcL
  | .rrc, .atHL => .rrcAtHL
  | .rrc, .reg .a => .rrcA
  | .rl, .reg .b => .rlB
  | .rl, .reg .c => .rlC
  | .rl, .reg .d => .rlD
  | .rl, .reg .e => .rlE
  | .rl, .reg .h => .rlH
  | .rl, .reg .l => .rlL
  | .rl, .atHL => .rlAtHL
  | .rl, .reg .a => .rlA
  | .rr, .reg .b => .rrB
  | .rr, .reg .c => .rrC
  | .rr, .reg .d => .rrD
  | .rr, .reg .e => .rrE
  | .rr, .reg .h => .rrH
  | .rr, .reg .l => .rrL
  | .rr, .atHL => .rrAtHL
  | .rr, .reg .a => .rrA
  | .sla, .reg .b => .slaB
  | .sla, .reg .c => .slaC
  | .sla, .reg .d => .slaD
  | .sla, .reg .e => .slaE
  | .sla, .reg .h => .slaH
  | .sla, .reg .l => .slaL
  | .sla, .atHL => .slaAtHL
  | .sla, .reg .a => .slaA
  | .sra, .reg .b => .sraB
  | .sra, .reg .c => .sraC
  | .sra, .reg .d => .sraD
  | .sra, .reg .e => .sraE
  | .sra, .reg .h => .sraH
  | .sra, .reg .l => .sraL
  | .sra, .atHL => .sraAtHL
  | .sra, .reg .a => .sraA
  | .swap, .reg .b => .swapB
  | .swap, .reg .c => .swapC
  | .swap, .reg .d => .swapD
  | .swap, .reg .e => .swapE
  | .swap, .reg .h => .swapH
  | .swap, .reg .l => .swapL
  | .swap, .atHL => .swapAtHL
  | .swap, .reg .a => .swapA
  | .srl, .reg .b => .srlB
  | .srl, .reg .c => .srlC
  | .srl, .reg .d => .srlD
  | .srl, .reg .e => .srlE
  | .srl, .reg .h => .srlH
  | .srl, .reg .l => .srlL
  | .srl, .atHL => .srlAtHL
  | .srl, .reg .a => .srlA

/-- BIT b,r8 (R144, R293). -/
def Instr.bit (b : Fin 8) (x : Loc8) : Instr :=
  match b, x with
  | 0, .reg .b => .bit0B
  | 0, .reg .c => .bit0C
  | 0, .reg .d => .bit0D
  | 0, .reg .e => .bit0E
  | 0, .reg .h => .bit0H
  | 0, .reg .l => .bit0L
  | 0, .atHL => .bit0AtHL
  | 0, .reg .a => .bit0A
  | 1, .reg .b => .bit1B
  | 1, .reg .c => .bit1C
  | 1, .reg .d => .bit1D
  | 1, .reg .e => .bit1E
  | 1, .reg .h => .bit1H
  | 1, .reg .l => .bit1L
  | 1, .atHL => .bit1AtHL
  | 1, .reg .a => .bit1A
  | 2, .reg .b => .bit2B
  | 2, .reg .c => .bit2C
  | 2, .reg .d => .bit2D
  | 2, .reg .e => .bit2E
  | 2, .reg .h => .bit2H
  | 2, .reg .l => .bit2L
  | 2, .atHL => .bit2AtHL
  | 2, .reg .a => .bit2A
  | 3, .reg .b => .bit3B
  | 3, .reg .c => .bit3C
  | 3, .reg .d => .bit3D
  | 3, .reg .e => .bit3E
  | 3, .reg .h => .bit3H
  | 3, .reg .l => .bit3L
  | 3, .atHL => .bit3AtHL
  | 3, .reg .a => .bit3A
  | 4, .reg .b => .bit4B
  | 4, .reg .c => .bit4C
  | 4, .reg .d => .bit4D
  | 4, .reg .e => .bit4E
  | 4, .reg .h => .bit4H
  | 4, .reg .l => .bit4L
  | 4, .atHL => .bit4AtHL
  | 4, .reg .a => .bit4A
  | 5, .reg .b => .bit5B
  | 5, .reg .c => .bit5C
  | 5, .reg .d => .bit5D
  | 5, .reg .e => .bit5E
  | 5, .reg .h => .bit5H
  | 5, .reg .l => .bit5L
  | 5, .atHL => .bit5AtHL
  | 5, .reg .a => .bit5A
  | 6, .reg .b => .bit6B
  | 6, .reg .c => .bit6C
  | 6, .reg .d => .bit6D
  | 6, .reg .e => .bit6E
  | 6, .reg .h => .bit6H
  | 6, .reg .l => .bit6L
  | 6, .atHL => .bit6AtHL
  | 6, .reg .a => .bit6A
  | 7, .reg .b => .bit7B
  | 7, .reg .c => .bit7C
  | 7, .reg .d => .bit7D
  | 7, .reg .e => .bit7E
  | 7, .reg .h => .bit7H
  | 7, .reg .l => .bit7L
  | 7, .atHL => .bit7AtHL
  | 7, .reg .a => .bit7A

/-- RES b,r8 (R144, R294). -/
def Instr.res (b : Fin 8) (x : Loc8) : Instr :=
  match b, x with
  | 0, .reg .b => .res0B
  | 0, .reg .c => .res0C
  | 0, .reg .d => .res0D
  | 0, .reg .e => .res0E
  | 0, .reg .h => .res0H
  | 0, .reg .l => .res0L
  | 0, .atHL => .res0AtHL
  | 0, .reg .a => .res0A
  | 1, .reg .b => .res1B
  | 1, .reg .c => .res1C
  | 1, .reg .d => .res1D
  | 1, .reg .e => .res1E
  | 1, .reg .h => .res1H
  | 1, .reg .l => .res1L
  | 1, .atHL => .res1AtHL
  | 1, .reg .a => .res1A
  | 2, .reg .b => .res2B
  | 2, .reg .c => .res2C
  | 2, .reg .d => .res2D
  | 2, .reg .e => .res2E
  | 2, .reg .h => .res2H
  | 2, .reg .l => .res2L
  | 2, .atHL => .res2AtHL
  | 2, .reg .a => .res2A
  | 3, .reg .b => .res3B
  | 3, .reg .c => .res3C
  | 3, .reg .d => .res3D
  | 3, .reg .e => .res3E
  | 3, .reg .h => .res3H
  | 3, .reg .l => .res3L
  | 3, .atHL => .res3AtHL
  | 3, .reg .a => .res3A
  | 4, .reg .b => .res4B
  | 4, .reg .c => .res4C
  | 4, .reg .d => .res4D
  | 4, .reg .e => .res4E
  | 4, .reg .h => .res4H
  | 4, .reg .l => .res4L
  | 4, .atHL => .res4AtHL
  | 4, .reg .a => .res4A
  | 5, .reg .b => .res5B
  | 5, .reg .c => .res5C
  | 5, .reg .d => .res5D
  | 5, .reg .e => .res5E
  | 5, .reg .h => .res5H
  | 5, .reg .l => .res5L
  | 5, .atHL => .res5AtHL
  | 5, .reg .a => .res5A
  | 6, .reg .b => .res6B
  | 6, .reg .c => .res6C
  | 6, .reg .d => .res6D
  | 6, .reg .e => .res6E
  | 6, .reg .h => .res6H
  | 6, .reg .l => .res6L
  | 6, .atHL => .res6AtHL
  | 6, .reg .a => .res6A
  | 7, .reg .b => .res7B
  | 7, .reg .c => .res7C
  | 7, .reg .d => .res7D
  | 7, .reg .e => .res7E
  | 7, .reg .h => .res7H
  | 7, .reg .l => .res7L
  | 7, .atHL => .res7AtHL
  | 7, .reg .a => .res7A

/-- SET b,r8 (R144, R295). -/
def Instr.set (b : Fin 8) (x : Loc8) : Instr :=
  match b, x with
  | 0, .reg .b => .set0B
  | 0, .reg .c => .set0C
  | 0, .reg .d => .set0D
  | 0, .reg .e => .set0E
  | 0, .reg .h => .set0H
  | 0, .reg .l => .set0L
  | 0, .atHL => .set0AtHL
  | 0, .reg .a => .set0A
  | 1, .reg .b => .set1B
  | 1, .reg .c => .set1C
  | 1, .reg .d => .set1D
  | 1, .reg .e => .set1E
  | 1, .reg .h => .set1H
  | 1, .reg .l => .set1L
  | 1, .atHL => .set1AtHL
  | 1, .reg .a => .set1A
  | 2, .reg .b => .set2B
  | 2, .reg .c => .set2C
  | 2, .reg .d => .set2D
  | 2, .reg .e => .set2E
  | 2, .reg .h => .set2H
  | 2, .reg .l => .set2L
  | 2, .atHL => .set2AtHL
  | 2, .reg .a => .set2A
  | 3, .reg .b => .set3B
  | 3, .reg .c => .set3C
  | 3, .reg .d => .set3D
  | 3, .reg .e => .set3E
  | 3, .reg .h => .set3H
  | 3, .reg .l => .set3L
  | 3, .atHL => .set3AtHL
  | 3, .reg .a => .set3A
  | 4, .reg .b => .set4B
  | 4, .reg .c => .set4C
  | 4, .reg .d => .set4D
  | 4, .reg .e => .set4E
  | 4, .reg .h => .set4H
  | 4, .reg .l => .set4L
  | 4, .atHL => .set4AtHL
  | 4, .reg .a => .set4A
  | 5, .reg .b => .set5B
  | 5, .reg .c => .set5C
  | 5, .reg .d => .set5D
  | 5, .reg .e => .set5E
  | 5, .reg .h => .set5H
  | 5, .reg .l => .set5L
  | 5, .atHL => .set5AtHL
  | 5, .reg .a => .set5A
  | 6, .reg .b => .set6B
  | 6, .reg .c => .set6C
  | 6, .reg .d => .set6D
  | 6, .reg .e => .set6E
  | 6, .reg .h => .set6H
  | 6, .reg .l => .set6L
  | 6, .atHL => .set6AtHL
  | 6, .reg .a => .set6A
  | 7, .reg .b => .set7B
  | 7, .reg .c => .set7C
  | 7, .reg .d => .set7D
  | 7, .reg .e => .set7E
  | 7, .reg .h => .set7H
  | 7, .reg .l => .set7L
  | 7, .atHL => .set7AtHL
  | 7, .reg .a => .set7A

/-- JR cc,e (R331). -/
def Instr.jrCond (cc : Cond) (e : Byte) : Instr :=
  match cc with
  | .nz => .jrNZ e
  | .z => .jrZ e
  | .nc => .jrNC e
  | .c => .jrC e

/-- JP cc,nn (R333). -/
def Instr.jpCond (cc : Cond) (nn : Word) : Instr :=
  match cc with
  | .nz => .jpNZ nn
  | .z => .jpZ nn
  | .nc => .jpNC nn
  | .c => .jpC nn

/-- CALL cc,nn (R336). -/
def Instr.callCond (cc : Cond) (nn : Word) : Instr :=
  match cc with
  | .nz => .callNZ nn
  | .z => .callZ nn
  | .nc => .callNC nn
  | .c => .callC nn

/-- RET cc (R338). -/
def Instr.retCond (cc : Cond) : Instr :=
  match cc with
  | .nz => .retNZ
  | .z => .retZ
  | .nc => .retNC
  | .c => .retC

/-- RST t, t = 8y (R340). -/
def Instr.rst (y : Fin 8) : Instr :=
  match y with
  | 0 => .rst00
  | 1 => .rst08
  | 2 => .rst10
  | 3 => .rst18
  | 4 => .rst20
  | 5 => .rst28
  | 6 => .rst30
  | 7 => .rst38
/-! The decoder. -/

/-- Field x, bits 7–6 (R131). -/
def fieldX (b : Byte) : Fin 4 := ⟨b.toNat / 64, by omega⟩

/-- Field y, bits 5–3 (R131). -/
def fieldY (b : Byte) : Fin 8 := ⟨b.toNat / 8 % 8, by omega⟩

/-- Field z, bits 2–0 (R131). -/
def fieldZ (b : Byte) : Fin 8 := ⟨b.toNat % 8, by omega⟩

/-- `r8[i]` (R134). -/
def loc8Of (i : Fin 8) : Loc8 :=
  match i with
  | 0 => .reg .b
  | 1 => .reg .c
  | 2 => .reg .d
  | 3 => .reg .e
  | 4 => .reg .h
  | 5 => .reg .l
  | 6 => .atHL
  | 7 => .reg .a

/-- `alu[y]` (R138). -/
def aluOf (y : Fin 8) : AluOp :=
  match y with
  | 0 => .add
  | 1 => .adc
  | 2 => .sub
  | 3 => .sbc
  | 4 => .and
  | 5 => .xor
  | 6 => .or
  | 7 => .cp

/-- `rot[y]` (R139). -/
def rotOf (y : Fin 8) : RotOp :=
  match y with
  | 0 => .rlc
  | 1 => .rrc
  | 2 => .rl
  | 3 => .rr
  | 4 => .sla
  | 5 => .sra
  | 6 => .swap
  | 7 => .srl

/-- What the first byte of an instruction calls for (R130): no more bytes, an 8-bit immediate, a 16-bit immediate, or the second
byte of a 0xCB instruction. -/
inductive Plan where
  | done (i : Instr)
  | imm8 (k : Byte → Instr)
  | imm16 (k : Word → Instr)
  | prefixed

/-- The length of the instruction, fixed by its first byte alone (R130). -/
def Plan.length (p : Plan) : Nat :=
  match p with
  | .done _ => 1
  | .imm8 _ => 2
  | .imm16 _ => 3
  | .prefixed => 2

/-- Unprefixed opcodes with x = 0 (R140). -/
def planX0 (y z : Fin 8) : Plan :=
  match z with
  | 0 =>
    match y with
    | 0 => .done .nop
    | 1 => .imm16 .ldAtNNSP
    | 2 => .done .stop
    | 3 => .imm8 .jr
    | 4 => .imm8 (Instr.jrCond .nz)
    | 5 => .imm8 (Instr.jrCond .z)
    | 6 => .imm8 (Instr.jrCond .nc)
    | 7 => .imm8 (Instr.jrCond .c)
  | 1 =>
    match y with
    | 0 => .imm16 (Instr.ldPairImm .bc)
    | 1 => .done (Instr.addHLPair .bc)
    | 2 => .imm16 (Instr.ldPairImm .de)
    | 3 => .done (Instr.addHLPair .de)
    | 4 => .imm16 (Instr.ldPairImm .hl)
    | 5 => .done (Instr.addHLPair .hl)
    | 6 => .imm16 (Instr.ldPairImm .sp)
    | 7 => .done (Instr.addHLPair .sp)
  | 2 =>
    match y with
    | 0 => .done (Instr.ldAtA .bc)
    | 1 => .done (Instr.ldAAt .bc)
    | 2 => .done (Instr.ldAtA .de)
    | 3 => .done (Instr.ldAAt .de)
    | 4 => .done (Instr.ldAtA .hlInc)
    | 5 => .done (Instr.ldAAt .hlInc)
    | 6 => .done (Instr.ldAtA .hlDec)
    | 7 => .done (Instr.ldAAt .hlDec)
  | 3 =>
    match y with
    | 0 => .done (Instr.incPair .bc)
    | 1 => .done (Instr.decPair .bc)
    | 2 => .done (Instr.incPair .de)
    | 3 => .done (Instr.decPair .de)
    | 4 => .done (Instr.incPair .hl)
    | 5 => .done (Instr.decPair .hl)
    | 6 => .done (Instr.incPair .sp)
    | 7 => .done (Instr.decPair .sp)
  | 4 => .done (Instr.inc (loc8Of y))
  | 5 => .done (Instr.dec (loc8Of y))
  | 6 => .imm8 (Instr.ldLocImm (loc8Of y))
  | 7 =>
    match y with
    | 0 => .done .rlca
    | 1 => .done .rrca
    | 2 => .done .rla
    | 3 => .done .rra
    | 4 => .done .daa
    | 5 => .done .cpl
    | 6 => .done .scf
    | 7 => .done .ccf

/-- Unprefixed opcodes with x = 1: LD r8[y],r8[z], and HALT in the place of LD (HL),(HL) (R141). -/
def planX1 (y z : Fin 8) : Plan :=
  match loc8Of y, loc8Of z with
  | .reg dst, .reg src => .done (Instr.ldRegReg dst src)
  | .reg dst, .atHL => .done (Instr.ldRegAtHL dst)
  | .atHL, .reg src => .done (Instr.ldAtHLReg src)
  | .atHL, .atHL => .done .halt

/-- Unprefixed opcodes with x = 2: alu[y] A,r8[z] (R142). -/
def planX2 (y z : Fin 8) : Plan := .done (Instr.alu (aluOf y) (loc8Of z))

/-- Unprefixed opcodes with x = 3, the eleven unrecognised bytes among them (R143, R145). -/
def planX3 (y z : Fin 8) : Plan :=
  match z with
  | 0 =>
    match y with
    | 0 => .done (Instr.retCond .nz)
    | 1 => .done (Instr.retCond .z)
    | 2 => .done (Instr.retCond .nc)
    | 3 => .done (Instr.retCond .c)
    | 4 => .imm8 .ldhAtNA
    | 5 => .imm8 .addSPE
    | 6 => .imm8 .ldhAAtN
    | 7 => .imm8 .ldHLSPPlusE
  | 1 =>
    match y with
    | 0 => .done (Instr.pop .bc)
    | 1 => .done .ret
    | 2 => .done (Instr.pop .de)
    | 3 => .done .reti
    | 4 => .done (Instr.pop .hl)
    | 5 => .done .jpHL
    | 6 => .done (Instr.pop .af)
    | 7 => .done .ldSPHL
  | 2 =>
    match y with
    | 0 => .imm16 (Instr.jpCond .nz)
    | 1 => .imm16 (Instr.jpCond .z)
    | 2 => .imm16 (Instr.jpCond .nc)
    | 3 => .imm16 (Instr.jpCond .c)
    | 4 => .done (Instr.ldAtA .highC)
    | 5 => .imm16 .ldAtNNA
    | 6 => .done (Instr.ldAAt .highC)
    | 7 => .imm16 .ldAAtNN
  | 3 =>
    match y with
    | 0 => .imm16 .jp
    | 1 => .prefixed
    | 2 => .done .unrecognisedD3
    | 3 => .done .unrecognisedDB
    | 4 => .done .unrecognisedE3
    | 5 => .done .unrecognisedEB
    | 6 => .done .di
    | 7 => .done .ei
  | 4 =>
    match y with
    | 0 => .imm16 (Instr.callCond .nz)
    | 1 => .imm16 (Instr.callCond .z)
    | 2 => .imm16 (Instr.callCond .nc)
    | 3 => .imm16 (Instr.callCond .c)
    | 4 => .done .unrecognisedE4
    | 5 => .done .unrecognisedEC
    | 6 => .done .unrecognisedF4
    | 7 => .done .unrecognisedFC
  | 5 =>
    match y with
    | 0 => .done (Instr.push .bc)
    | 1 => .imm16 .call
    | 2 => .done (Instr.push .de)
    | 3 => .done .unrecognisedDD
    | 4 => .done (Instr.push .hl)
    | 5 => .done .unrecognisedED
    | 6 => .done (Instr.push .af)
    | 7 => .done .unrecognisedFD
  | 6 => .imm8 (Instr.aluImm (aluOf y))
  | 7 => .done (Instr.rst y)

/-- What the first byte calls for (R133). -/
def plan (b0 : Byte) : Plan :=
  match fieldX b0 with
  | 0 => planX0 (fieldY b0) (fieldZ b0)
  | 1 => planX1 (fieldY b0) (fieldZ b0)
  | 2 => planX2 (fieldY b0) (fieldZ b0)
  | 3 => planX3 (fieldY b0) (fieldZ b0)

/-- The instruction of a 0xCB second byte, decoded afresh from that byte alone (R144, R544). -/
def cbInstr (b1 : Byte) : Instr :=
  match fieldX b1 with
  | 0 => Instr.rot (rotOf (fieldY b1)) (loc8Of (fieldZ b1))
  | 1 => Instr.bit (fieldY b1) (loc8Of (fieldZ b1))
  | 2 => Instr.res (fieldY b1) (loc8Of (fieldZ b1))
  | 3 => Instr.set (fieldY b1) (loc8Of (fieldZ b1))

/-- Why bytes do not decode: every byte sequence long enough decodes (R133). -/
inductive DecodeError where
  /-- There is no first byte. -/
  | noBytes
  /-- The bytes end before the instruction that `first` begins. -/
  | truncated (first : Byte)
deriving DecidableEq, Repr

/-- What stands behind the first byte: the instruction, with its immediate or second byte, and the rest (R130, R132). -/
def decodeRest (b0 : Byte) (p : Plan) (rest : List Byte) : Except DecodeError (Instr × List Byte) :=
  match p with
  | .done i => .ok (i, rest)
  | .imm8 k =>
    match rest with
    | n :: rest' => .ok (k n, rest')
    | [] => .error (.truncated b0)
  | .imm16 k =>
    match rest with
    | lo :: hi :: rest' => .ok (k (joinBytes hi lo), rest')
    | _ => .error (.truncated b0)
  | .prefixed =>
    match rest with
    | b1 :: rest' => .ok (cbInstr b1, rest')
    | [] => .error (.truncated b0)

/-- Decode one instruction from the front of a byte list, giving the rest of the list (R133). -/
def decode (bytes : List Byte) : Except DecodeError (Instr × List Byte) :=
  match bytes with
  | [] => .error .noBytes
  | b0 :: rest => decodeRest b0 (plan b0) rest

/-- The bytes of an instruction in memory order (R130, R140 to R145; the bytes are those of spec/opcode_table.json). -/
def encode (i : Instr) : List Byte :=
  match i with
  | .ldAtBCA => [0x02]
  | .ldBN n => [0x06, n]
  | .ldAAtBC => [0x0A]
  | .ldCN n => [0x0E, n]
  | .ldAtDEA => [0x12]
  | .ldDN n => [0x16, n]
  | .ldAAtDE => [0x1A]
  | .ldEN n => [0x1E, n]
  | .ldAtHLIncA => [0x22]
  | .ldHN n => [0x26, n]
  | .ldAAtHLInc => [0x2A]
  | .ldLN n => [0x2E, n]
  | .ldAtHLDecA => [0x32]
  | .ldAtHLN n => [0x36, n]
  | .ldAAtHLDec => [0x3A]
  | .ldAN n => [0x3E, n]
  | .ldBB => [0x40]
  | .ldBC => [0x41]
  | .ldBD => [0x42]
  | .ldBE => [0x43]
  | .ldBH => [0x44]
  | .ldBL => [0x45]
  | .ldBAtHL => [0x46]
  | .ldBA => [0x47]
  | .ldCB => [0x48]
  | .ldCC => [0x49]
  | .ldCD => [0x4A]
  | .ldCE => [0x4B]
  | .ldCH => [0x4C]
  | .ldCL => [0x4D]
  | .ldCAtHL => [0x4E]
  | .ldCA => [0x4F]
  | .ldDB => [0x50]
  | .ldDC => [0x51]
  | .ldDD => [0x52]
  | .ldDE => [0x53]
  | .ldDH => [0x54]
  | .ldDL => [0x55]
  | .ldDAtHL => [0x56]
  | .ldDA => [0x57]
  | .ldEB => [0x58]
  | .ldEC => [0x59]
  | .ldED => [0x5A]
  | .ldEE => [0x5B]
  | .ldEH => [0x5C]
  | .ldEL => [0x5D]
  | .ldEAtHL => [0x5E]
  | .ldEA => [0x5F]
  | .ldHB => [0x60]
  | .ldHC => [0x61]
  | .ldHD => [0x62]
  | .ldHE => [0x63]
  | .ldHH => [0x64]
  | .ldHL => [0x65]
  | .ldHAtHL => [0x66]
  | .ldHA => [0x67]
  | .ldLB => [0x68]
  | .ldLC => [0x69]
  | .ldLD => [0x6A]
  | .ldLE => [0x6B]
  | .ldLH => [0x6C]
  | .ldLL => [0x6D]
  | .ldLAtHL => [0x6E]
  | .ldLA => [0x6F]
  | .ldAtHLB => [0x70]
  | .ldAtHLC => [0x71]
  | .ldAtHLD => [0x72]
  | .ldAtHLE => [0x73]
  | .ldAtHLH => [0x74]
  | .ldAtHLL => [0x75]
  | .ldAtHLA => [0x77]
  | .ldAB => [0x78]
  | .ldAC => [0x79]
  | .ldAD => [0x7A]
  | .ldAE => [0x7B]
  | .ldAH => [0x7C]
  | .ldAL => [0x7D]
  | .ldAAtHL => [0x7E]
  | .ldAA => [0x7F]
  | .ldhAtNA n => [0xE0, n]
  | .ldAtHighCA => [0xE2]
  | .ldAtNNA nn => [0xEA, loByte nn, hiByte nn]
  | .ldhAAtN n => [0xF0, n]
  | .ldAAtHighC => [0xF2]
  | .ldAAtNN nn => [0xFA, loByte nn, hiByte nn]
  | .ldBCNN nn => [0x01, loByte nn, hiByte nn]
  | .ldAtNNSP nn => [0x08, loByte nn, hiByte nn]
  | .ldDENN nn => [0x11, loByte nn, hiByte nn]
  | .ldHLNN nn => [0x21, loByte nn, hiByte nn]
  | .ldSPNN nn => [0x31, loByte nn, hiByte nn]
  | .popBC => [0xC1]
  | .pushBC => [0xC5]
  | .popDE => [0xD1]
  | .pushDE => [0xD5]
  | .popHL => [0xE1]
  | .pushHL => [0xE5]
  | .popAF => [0xF1]
  | .pushAF => [0xF5]
  | .ldHLSPPlusE e => [0xF8, e]
  | .ldSPHL => [0xF9]
  | .incB => [0x04]
  | .decB => [0x05]
  | .incC => [0x0C]
  | .decC => [0x0D]
  | .incD => [0x14]
  | .decD => [0x15]
  | .incE => [0x1C]
  | .decE => [0x1D]
  | .incH => [0x24]
  | .decH => [0x25]
  | .daa => [0x27]
  | .incL => [0x2C]
  | .decL => [0x2D]
  | .cpl => [0x2F]
  | .incAtHL => [0x34]
  | .decAtHL => [0x35]
  | .scf => [0x37]
  | .incA => [0x3C]
  | .decA => [0x3D]
  | .ccf => [0x3F]
  | .addAB => [0x80]
  | .addAC => [0x81]
  | .addAD => [0x82]
  | .addAE => [0x83]
  | .addAH => [0x84]
  | .addAL => [0x85]
  | .addAAtHL => [0x86]
  | .addAA => [0x87]
  | .adcAB => [0x88]
  | .adcAC => [0x89]
  | .adcAD => [0x8A]
  | .adcAE => [0x8B]
  | .adcAH => [0x8C]
  | .adcAL => [0x8D]
  | .adcAAtHL => [0x8E]
  | .adcAA => [0x8F]
  | .subB => [0x90]
  | .subC => [0x91]
  | .subD => [0x92]
  | .subE => [0x93]
  | .subH => [0x94]
  | .subL => [0x95]
  | .subAtHL => [0x96]
  | .subA => [0x97]
  | .sbcAB => [0x98]
  | .sbcAC => [0x99]
  | .sbcAD => [0x9A]
  | .sbcAE => [0x9B]
  | .sbcAH => [0x9C]
  | .sbcAL => [0x9D]
  | .sbcAAtHL => [0x9E]
  | .sbcAA => [0x9F]
  | .andB => [0xA0]
  | .andC => [0xA1]
  | .andD => [0xA2]
  | .andE => [0xA3]
  | .andH => [0xA4]
  | .andL => [0xA5]
  | .andAtHL => [0xA6]
  | .andA => [0xA7]
  | .xorB => [0xA8]
  | .xorC => [0xA9]
  | .xorD => [0xAA]
  | .xorE => [0xAB]
  | .xorH => [0xAC]
  | .xorL => [0xAD]
  | .xorAtHL => [0xAE]
  | .xorA => [0xAF]
  | .orB => [0xB0]
  | .orC => [0xB1]
  | .orD => [0xB2]
  | .orE => [0xB3]
  | .orH => [0xB4]
  | .orL => [0xB5]
  | .orAtHL => [0xB6]
  | .orA => [0xB7]
  | .cpB => [0xB8]
  | .cpC => [0xB9]
  | .cpD => [0xBA]
  | .cpE => [0xBB]
  | .cpH => [0xBC]
  | .cpL => [0xBD]
  | .cpAtHL => [0xBE]
  | .cpA => [0xBF]
  | .addAN n => [0xC6, n]
  | .adcAN n => [0xCE, n]
  | .subN n => [0xD6, n]
  | .sbcAN n => [0xDE, n]
  | .andN n => [0xE6, n]
  | .xorN n => [0xEE, n]
  | .orN n => [0xF6, n]
  | .cpN n => [0xFE, n]
  | .incBC => [0x03]
  | .addHLBC => [0x09]
  | .decBC => [0x0B]
  | .incDE => [0x13]
  | .addHLDE => [0x19]
  | .decDE => [0x1B]
  | .incHL => [0x23]
  | .addHLHL => [0x29]
  | .decHL => [0x2B]
  | .incSP => [0x33]
  | .addHLSP => [0x39]
  | .decSP => [0x3B]
  | .addSPE e => [0xE8, e]
  | .rlca => [0x07]
  | .rrca => [0x0F]
  | .rla => [0x17]
  | .rra => [0x1F]
  | .rlcB => [0xCB, 0x00]
  | .rlcC => [0xCB, 0x01]
  | .rlcD => [0xCB, 0x02]
  | .rlcE => [0xCB, 0x03]
  | .rlcH => [0xCB, 0x04]
  | .rlcL => [0xCB, 0x05]
  | .rlcAtHL => [0xCB, 0x06]
  | .rlcA => [0xCB, 0x07]
  | .rrcB => [0xCB, 0x08]
  | .rrcC => [0xCB, 0x09]
  | .rrcD => [0xCB, 0x0A]
  | .rrcE => [0xCB, 0x0B]
  | .rrcH => [0xCB, 0x0C]
  | .rrcL => [0xCB, 0x0D]
  | .rrcAtHL => [0xCB, 0x0E]
  | .rrcA => [0xCB, 0x0F]
  | .rlB => [0xCB, 0x10]
  | .rlC => [0xCB, 0x11]
  | .rlD => [0xCB, 0x12]
  | .rlE => [0xCB, 0x13]
  | .rlH => [0xCB, 0x14]
  | .rlL => [0xCB, 0x15]
  | .rlAtHL => [0xCB, 0x16]
  | .rlA => [0xCB, 0x17]
  | .rrB => [0xCB, 0x18]
  | .rrC => [0xCB, 0x19]
  | .rrD => [0xCB, 0x1A]
  | .rrE => [0xCB, 0x1B]
  | .rrH => [0xCB, 0x1C]
  | .rrL => [0xCB, 0x1D]
  | .rrAtHL => [0xCB, 0x1E]
  | .rrA => [0xCB, 0x1F]
  | .slaB => [0xCB, 0x20]
  | .slaC => [0xCB, 0x21]
  | .slaD => [0xCB, 0x22]
  | .slaE => [0xCB, 0x23]
  | .slaH => [0xCB, 0x24]
  | .slaL => [0xCB, 0x25]
  | .slaAtHL => [0xCB, 0x26]
  | .slaA => [0xCB, 0x27]
  | .sraB => [0xCB, 0x28]
  | .sraC => [0xCB, 0x29]
  | .sraD => [0xCB, 0x2A]
  | .sraE => [0xCB, 0x2B]
  | .sraH => [0xCB, 0x2C]
  | .sraL => [0xCB, 0x2D]
  | .sraAtHL => [0xCB, 0x2E]
  | .sraA => [0xCB, 0x2F]
  | .swapB => [0xCB, 0x30]
  | .swapC => [0xCB, 0x31]
  | .swapD => [0xCB, 0x32]
  | .swapE => [0xCB, 0x33]
  | .swapH => [0xCB, 0x34]
  | .swapL => [0xCB, 0x35]
  | .swapAtHL => [0xCB, 0x36]
  | .swapA => [0xCB, 0x37]
  | .srlB => [0xCB, 0x38]
  | .srlC => [0xCB, 0x39]
  | .srlD => [0xCB, 0x3A]
  | .srlE => [0xCB, 0x3B]
  | .srlH => [0xCB, 0x3C]
  | .srlL => [0xCB, 0x3D]
  | .srlAtHL => [0xCB, 0x3E]
  | .srlA => [0xCB, 0x3F]
  | .bit0B => [0xCB, 0x40]
  | .bit0C => [0xCB, 0x41]
  | .bit0D => [0xCB, 0x42]
  | .bit0E => [0xCB, 0x43]
  | .bit0H => [0xCB, 0x44]
  | .bit0L => [0xCB, 0x45]
  | .bit0AtHL => [0xCB, 0x46]
  | .bit0A => [0xCB, 0x47]
  | .bit1B => [0xCB, 0x48]
  | .bit1C => [0xCB, 0x49]
  | .bit1D => [0xCB, 0x4A]
  | .bit1E => [0xCB, 0x4B]
  | .bit1H => [0xCB, 0x4C]
  | .bit1L => [0xCB, 0x4D]
  | .bit1AtHL => [0xCB, 0x4E]
  | .bit1A => [0xCB, 0x4F]
  | .bit2B => [0xCB, 0x50]
  | .bit2C => [0xCB, 0x51]
  | .bit2D => [0xCB, 0x52]
  | .bit2E => [0xCB, 0x53]
  | .bit2H => [0xCB, 0x54]
  | .bit2L => [0xCB, 0x55]
  | .bit2AtHL => [0xCB, 0x56]
  | .bit2A => [0xCB, 0x57]
  | .bit3B => [0xCB, 0x58]
  | .bit3C => [0xCB, 0x59]
  | .bit3D => [0xCB, 0x5A]
  | .bit3E => [0xCB, 0x5B]
  | .bit3H => [0xCB, 0x5C]
  | .bit3L => [0xCB, 0x5D]
  | .bit3AtHL => [0xCB, 0x5E]
  | .bit3A => [0xCB, 0x5F]
  | .bit4B => [0xCB, 0x60]
  | .bit4C => [0xCB, 0x61]
  | .bit4D => [0xCB, 0x62]
  | .bit4E => [0xCB, 0x63]
  | .bit4H => [0xCB, 0x64]
  | .bit4L => [0xCB, 0x65]
  | .bit4AtHL => [0xCB, 0x66]
  | .bit4A => [0xCB, 0x67]
  | .bit5B => [0xCB, 0x68]
  | .bit5C => [0xCB, 0x69]
  | .bit5D => [0xCB, 0x6A]
  | .bit5E => [0xCB, 0x6B]
  | .bit5H => [0xCB, 0x6C]
  | .bit5L => [0xCB, 0x6D]
  | .bit5AtHL => [0xCB, 0x6E]
  | .bit5A => [0xCB, 0x6F]
  | .bit6B => [0xCB, 0x70]
  | .bit6C => [0xCB, 0x71]
  | .bit6D => [0xCB, 0x72]
  | .bit6E => [0xCB, 0x73]
  | .bit6H => [0xCB, 0x74]
  | .bit6L => [0xCB, 0x75]
  | .bit6AtHL => [0xCB, 0x76]
  | .bit6A => [0xCB, 0x77]
  | .bit7B => [0xCB, 0x78]
  | .bit7C => [0xCB, 0x79]
  | .bit7D => [0xCB, 0x7A]
  | .bit7E => [0xCB, 0x7B]
  | .bit7H => [0xCB, 0x7C]
  | .bit7L => [0xCB, 0x7D]
  | .bit7AtHL => [0xCB, 0x7E]
  | .bit7A => [0xCB, 0x7F]
  | .res0B => [0xCB, 0x80]
  | .res0C => [0xCB, 0x81]
  | .res0D => [0xCB, 0x82]
  | .res0E => [0xCB, 0x83]
  | .res0H => [0xCB, 0x84]
  | .res0L => [0xCB, 0x85]
  | .res0AtHL => [0xCB, 0x86]
  | .res0A => [0xCB, 0x87]
  | .res1B => [0xCB, 0x88]
  | .res1C => [0xCB, 0x89]
  | .res1D => [0xCB, 0x8A]
  | .res1E => [0xCB, 0x8B]
  | .res1H => [0xCB, 0x8C]
  | .res1L => [0xCB, 0x8D]
  | .res1AtHL => [0xCB, 0x8E]
  | .res1A => [0xCB, 0x8F]
  | .res2B => [0xCB, 0x90]
  | .res2C => [0xCB, 0x91]
  | .res2D => [0xCB, 0x92]
  | .res2E => [0xCB, 0x93]
  | .res2H => [0xCB, 0x94]
  | .res2L => [0xCB, 0x95]
  | .res2AtHL => [0xCB, 0x96]
  | .res2A => [0xCB, 0x97]
  | .res3B => [0xCB, 0x98]
  | .res3C => [0xCB, 0x99]
  | .res3D => [0xCB, 0x9A]
  | .res3E => [0xCB, 0x9B]
  | .res3H => [0xCB, 0x9C]
  | .res3L => [0xCB, 0x9D]
  | .res3AtHL => [0xCB, 0x9E]
  | .res3A => [0xCB, 0x9F]
  | .res4B => [0xCB, 0xA0]
  | .res4C => [0xCB, 0xA1]
  | .res4D => [0xCB, 0xA2]
  | .res4E => [0xCB, 0xA3]
  | .res4H => [0xCB, 0xA4]
  | .res4L => [0xCB, 0xA5]
  | .res4AtHL => [0xCB, 0xA6]
  | .res4A => [0xCB, 0xA7]
  | .res5B => [0xCB, 0xA8]
  | .res5C => [0xCB, 0xA9]
  | .res5D => [0xCB, 0xAA]
  | .res5E => [0xCB, 0xAB]
  | .res5H => [0xCB, 0xAC]
  | .res5L => [0xCB, 0xAD]
  | .res5AtHL => [0xCB, 0xAE]
  | .res5A => [0xCB, 0xAF]
  | .res6B => [0xCB, 0xB0]
  | .res6C => [0xCB, 0xB1]
  | .res6D => [0xCB, 0xB2]
  | .res6E => [0xCB, 0xB3]
  | .res6H => [0xCB, 0xB4]
  | .res6L => [0xCB, 0xB5]
  | .res6AtHL => [0xCB, 0xB6]
  | .res6A => [0xCB, 0xB7]
  | .res7B => [0xCB, 0xB8]
  | .res7C => [0xCB, 0xB9]
  | .res7D => [0xCB, 0xBA]
  | .res7E => [0xCB, 0xBB]
  | .res7H => [0xCB, 0xBC]
  | .res7L => [0xCB, 0xBD]
  | .res7AtHL => [0xCB, 0xBE]
  | .res7A => [0xCB, 0xBF]
  | .set0B => [0xCB, 0xC0]
  | .set0C => [0xCB, 0xC1]
  | .set0D => [0xCB, 0xC2]
  | .set0E => [0xCB, 0xC3]
  | .set0H => [0xCB, 0xC4]
  | .set0L => [0xCB, 0xC5]
  | .set0AtHL => [0xCB, 0xC6]
  | .set0A => [0xCB, 0xC7]
  | .set1B => [0xCB, 0xC8]
  | .set1C => [0xCB, 0xC9]
  | .set1D => [0xCB, 0xCA]
  | .set1E => [0xCB, 0xCB]
  | .set1H => [0xCB, 0xCC]
  | .set1L => [0xCB, 0xCD]
  | .set1AtHL => [0xCB, 0xCE]
  | .set1A => [0xCB, 0xCF]
  | .set2B => [0xCB, 0xD0]
  | .set2C => [0xCB, 0xD1]
  | .set2D => [0xCB, 0xD2]
  | .set2E => [0xCB, 0xD3]
  | .set2H => [0xCB, 0xD4]
  | .set2L => [0xCB, 0xD5]
  | .set2AtHL => [0xCB, 0xD6]
  | .set2A => [0xCB, 0xD7]
  | .set3B => [0xCB, 0xD8]
  | .set3C => [0xCB, 0xD9]
  | .set3D => [0xCB, 0xDA]
  | .set3E => [0xCB, 0xDB]
  | .set3H => [0xCB, 0xDC]
  | .set3L => [0xCB, 0xDD]
  | .set3AtHL => [0xCB, 0xDE]
  | .set3A => [0xCB, 0xDF]
  | .set4B => [0xCB, 0xE0]
  | .set4C => [0xCB, 0xE1]
  | .set4D => [0xCB, 0xE2]
  | .set4E => [0xCB, 0xE3]
  | .set4H => [0xCB, 0xE4]
  | .set4L => [0xCB, 0xE5]
  | .set4AtHL => [0xCB, 0xE6]
  | .set4A => [0xCB, 0xE7]
  | .set5B => [0xCB, 0xE8]
  | .set5C => [0xCB, 0xE9]
  | .set5D => [0xCB, 0xEA]
  | .set5E => [0xCB, 0xEB]
  | .set5H => [0xCB, 0xEC]
  | .set5L => [0xCB, 0xED]
  | .set5AtHL => [0xCB, 0xEE]
  | .set5A => [0xCB, 0xEF]
  | .set6B => [0xCB, 0xF0]
  | .set6C => [0xCB, 0xF1]
  | .set6D => [0xCB, 0xF2]
  | .set6E => [0xCB, 0xF3]
  | .set6H => [0xCB, 0xF4]
  | .set6L => [0xCB, 0xF5]
  | .set6AtHL => [0xCB, 0xF6]
  | .set6A => [0xCB, 0xF7]
  | .set7B => [0xCB, 0xF8]
  | .set7C => [0xCB, 0xF9]
  | .set7D => [0xCB, 0xFA]
  | .set7E => [0xCB, 0xFB]
  | .set7H => [0xCB, 0xFC]
  | .set7L => [0xCB, 0xFD]
  | .set7AtHL => [0xCB, 0xFE]
  | .set7A => [0xCB, 0xFF]
  | .jr e => [0x18, e]
  | .jrNZ e => [0x20, e]
  | .jrZ e => [0x28, e]
  | .jrNC e => [0x30, e]
  | .jrC e => [0x38, e]
  | .retNZ => [0xC0]
  | .jpNZ nn => [0xC2, loByte nn, hiByte nn]
  | .jp nn => [0xC3, loByte nn, hiByte nn]
  | .callNZ nn => [0xC4, loByte nn, hiByte nn]
  | .rst00 => [0xC7]
  | .retZ => [0xC8]
  | .ret => [0xC9]
  | .jpZ nn => [0xCA, loByte nn, hiByte nn]
  | .callZ nn => [0xCC, loByte nn, hiByte nn]
  | .call nn => [0xCD, loByte nn, hiByte nn]
  | .rst08 => [0xCF]
  | .retNC => [0xD0]
  | .jpNC nn => [0xD2, loByte nn, hiByte nn]
  | .callNC nn => [0xD4, loByte nn, hiByte nn]
  | .rst10 => [0xD7]
  | .retC => [0xD8]
  | .reti => [0xD9]
  | .jpC nn => [0xDA, loByte nn, hiByte nn]
  | .callC nn => [0xDC, loByte nn, hiByte nn]
  | .rst18 => [0xDF]
  | .rst20 => [0xE7]
  | .jpHL => [0xE9]
  | .rst28 => [0xEF]
  | .rst30 => [0xF7]
  | .rst38 => [0xFF]
  | .nop => [0x00]
  | .stop => [0x10]
  | .halt => [0x76]
  | .unrecognisedD3 => [0xD3]
  | .unrecognisedDB => [0xDB]
  | .unrecognisedDD => [0xDD]
  | .unrecognisedE3 => [0xE3]
  | .unrecognisedE4 => [0xE4]
  | .unrecognisedEB => [0xEB]
  | .unrecognisedEC => [0xEC]
  | .unrecognisedED => [0xED]
  | .di => [0xF3]
  | .unrecognisedF4 => [0xF4]
  | .ei => [0xFB]
  | .unrecognisedFC => [0xFC]
  | .unrecognisedFD => [0xFD]

/-- The three bytes, in memory order, of the word `w` of an opcode-table row of `nbits` bits (log 12). A 0xCB row's word is
(first byte << 8) | second byte, as R149 numbers it; any other word has its first byte in bits 7 to 0. -/
def tableBytes (nbits w : Nat) : Byte × Byte × Byte :=
  if nbits = 16 ∧ w / 256 % 256 = 0xCB then (0xCB, BitVec.ofNat 8 w, 0)
  else (BitVec.ofNat 8 w, BitVec.ofNat 8 (w / 0x100), BitVec.ofNat 8 (w / 0x10000))

/-- The instruction that the decoder reads from an opcode-table word, its operand bytes being zero (log 12). -/
def decodeTableWord (nbits w : Nat) : Option Instr :=
  match tableBytes nbits w with
  | (b0, b1, b2) =>
    match decode [b0, b1, b2] with
    | .ok (i, _) => some i
    | .error _ => none

end Sys2Proof
end

