-- ==== Sys2Proof/Config.lean ====
section
/-! DEFINITION. What the spec fixes for the machine, the kinds of its parameters (R7), and the free values: constants with no
body, so that nothing can be proved of the bytes, requests and seconds that the spec leaves to the environment. -/

namespace Sys2Proof

/-- The four cartridge kinds (R470). -/
inductive CartKind
  | romOnly | mbc1 | mbc3 | mbc3Timer
deriving DecidableEq, Repr

/-- `RTC_MODE` (R7, R500, R504). -/
inductive RtcMode
  | system | wallclock
deriving DecidableEq, Repr

/-- The parameter `Ext` (R7, R12): the stub (plain bytes, no requests; D19), or open collaborators (PPU, APU, Joypad) whose
answers are free values. -/
inductive ExtMode
  | stub | collaborators
deriving DecidableEq, Repr

/-- `CPU_FREQUENCY`, cycles per second (R6). -/
def Config.cpuFrequency : Nat := 4194304

/-- `FRAME_CYCLES`, the frame budget of the host loop (R6, R548). -/
def Config.frameCycles : Nat := 69905

/-- `ACCESS_CYCLES`, the cost of one byte of memory access (R6). -/
def Config.accessCycles : Nat := 4

/-- `RTC_CYCLES_PER_TICK` of the system mode, CPU_FREQUENCY / 32 (R500). -/
def Config.rtcCyclesPerTick : Nat := 131072

/-- The byte that a ROM read beyond the image gives: any byte, a fresh draw per read (R475). FREE VALUE, log 5. -/
opaque Config.romOutOfRange : Nat → Byte

/-- The byte that an open collaborator answers at its port (R90). FREE VALUE, log 7. -/
opaque Config.extRead : Nat → Byte

/-- The requests (bit 0 VBlank, bit 1 LCDSTAT) that open collaborators raise inside one `ExtStep` (R94, R404). FREE VALUE,
log 7. -/
opaque Config.extRequest : Nat → BitVec 2

/-- Whether the input collaborator requests a Joypad interrupt between two steps (R404). FREE VALUE, log 7. -/
opaque Config.joypadRequest : Nat → Bool

/-- The whole seconds that one `CartStep` finds elapsed in wallclock mode (R504). FREE VALUE, log 8. -/
opaque Config.wallclockSeconds : Nat → Nat

end Sys2Proof
end

