-- ==== Sys2Proof/Machine/Memory.lean ====
section
/-! DEFINITION. Sparse byte arrays (the backing array of R40, the cartridge RAM of R45) and the ROM image (R44): reading and
writing one byte, and the canonical form that every write keeps. -/

namespace Sys2Proof.Machine

/-- A byte array held as its listed bytes: addresses strictly rising, no byte equal to `Memory.unlisted` (`Memory.wf` says so). -/
abbrev Memory := List Host.Cell

/-- What an unlisted address reads as. DESIGN CHOICE (D40's simulator default): log 2, log 3. -/
def Memory.unlisted : Byte := 0x00

/-- The byte at address `a`. -/
def Memory.read : Memory → Nat → Byte
  | [], _ => Memory.unlisted
  | (k, v) :: m, a => if k = a then v else Memory.read m a

/-- Write byte `v` at address `a`, keeping the addresses rising and listing no byte that an unlisted address reads as. -/
def Memory.write : Memory → Nat → Byte → Memory
  | [], a, v => if v = Memory.unlisted then [] else [(a, v)]
  | (k, w) :: m, a, v =>
    if a < k then (if v = Memory.unlisted then (k, w) :: m else (a, v) :: (k, w) :: m)
    else if a = k then (if v = Memory.unlisted then m else (a, v) :: m)
    else (k, w) :: Memory.write m a v

/-- The addresses rise strictly from `lo` on, and no listed byte is what an unlisted address reads as. -/
def Memory.wfFrom : Nat → Memory → Bool
  | _, [] => true
  | lo, (k, v) :: m => decide (lo ≤ k) && decide (v ≠ Memory.unlisted) && Memory.wfFrom (k + 1) m

/-- The canonical form of a byte array. -/
def Memory.wf (m : Memory) : Bool := Memory.wfFrom 0 m

/-- Every listed address lies in `lo ≤ k < hi`. -/
def Memory.within (lo hi : Nat) (m : Memory) : Bool := m.all fun kv => decide (lo ≤ kv.1) && decide (kv.1 < hi)

/-- The ROM image, an immutable byte sequence of length `size` (R44): offset k below `size` holds the byte that `cells` lists,
and 0x00 where it lists none, so that every image has exactly one form (log 4). -/
structure Rom where
  size  : Nat
  cells : Memory
deriving DecidableEq, Repr

/-- The byte of the image at an offset, or none beyond the image (R473 to R475). -/
def Rom.byte (r : Rom) (off : Nat) : Option Byte :=
  if off < r.size then some (r.cells.read off) else none

/-- The image with one byte replaced, made longer where the offset lies beyond its end. Used only to load a ROM. -/
def Rom.set (r : Rom) (off : Nat) (v : Byte) : Rom where
  size := max r.size (off + 1)
  cells := r.cells.write off v

/-- The canonical form of a ROM image. -/
def Rom.wf (r : Rom) : Bool := r.cells.wf && r.cells.within 0 r.size

end Sys2Proof.Machine
end

