-- ==== Sys2Proof/Machine/State.lean ====
section
/-! DEFINITION. The machine's state as plain data (spec/10_state.md), the reasons a step can stop, and the state after
reset (R50). The state is grouped by the blocks of R2: CPU, timer, cartridge, and the decoder's backing array. -/

namespace Sys2Proof.Machine

/-- The parameters of R7 that a running machine consults, fixed while it runs (log 4). -/
structure Params where
  rom              : Rom
  cartKind         : CartKind
  rtcMode          : RtcMode
  rtcCyclesPerTick : Nat
  ext              : ExtMode
deriving DecidableEq, Repr

/-- The registers and control state of the CPU (R30 to R39). -/
structure Cpu where
  a : Byte
  f : Byte
  b : Byte
  c : Byte
  d : Byte
  e : Byte
  h : Byte
  l : Byte
  sp : Word
  pc : Word
  ime : Bool
  halted : Bool
  /-- The cycle accumulator, an unbounded natural number (R38, log 11). -/
  cyc : Nat
  /-- The latched fatal error: the opcode byte and the address it was fetched from (R39, R400). -/
  fault : Option (Byte × Word)
deriving DecidableEq, Repr

/-- The DIV/TIMA timer (R43): DIV is the top byte of `counter`. -/
structure Timer where
  counter : Word
  tima : Byte
  tma : Byte
  tac : Byte
  /-- The falling-edge detector's memory (R444). -/
  prevSig : Bool
  /-- Cycles left until a pending TIMA reload, 0 = none pending (R445, R446). -/
  reloadDelay : Nat
deriving DecidableEq, Repr

/-- The five RTC registers (R46, R496). -/
structure Rtc where
  seconds : Byte
  minutes : Byte
  hours : Byte
  daysLower : Byte
  daysUpper : Byte
deriving DecidableEq, Repr

/-- The cartridge controller (R44 to R47). Every field is held for every kind; a kind that lacks one never touches it (log 21). -/
structure Cart where
  romBankNum : BitVec 7
  ramEnabled : Bool
  ramBank : Fin 4
  rtcMapped : Bool
  rtcSel : Fin 5
  ram : Memory
  rtcLive : Rtc
  rtcLatched : Rtc
  latchArmed : Bool
  rtcAcc : Nat
  /-- The last-observed wall-clock timestamp, in seconds (R47, R504, R512; log 9). -/
  rtcStamp : BitVec 32
deriving DecidableEq, Repr

/-- The whole machine. `mem` is the flat backing array of the address decoder, IF and IE among its bytes (R40 to R42). -/
structure State where
  cpu    : Cpu
  timer  : Timer
  cart   : Cart
  mem    : Memory
  params : Params
  /-- The MODEL's own field: how many free values have been drawn (log 5). -/
  draws  : Nat
deriving DecidableEq, Repr

/-- Why a step stops with a fault. -/
inductive Fault
  /-- Raised by `step` on a state whose `fault` is latched: an unrecognised opcode byte was executed earlier and no further
  step exists (R402, R545). Safe: the spec says the machine is stopped. -/
  | fatal (opcode : Byte) (addr : Word)
deriving DecidableEq, Repr

/-- Why a step is refused. -/
inductive Refusal
  /-- Raised by an arm of `exec` that has no meaning yet, none at present. Safe: nothing can be proved of such an instruction. -/
  | notModelled (mnemonic : String)
deriving DecidableEq, Repr

/-- Five zero RTC registers, their values after a reset with no save restored (R50). -/
def Rtc.zero : Rtc := ⟨0, 0, 0, 0, 0⟩

/-- The parameter `ResetValues` of R7: the value of every register after reset but the ROM bank number, which is 1 (R50, D12).
Only bits 7 to 4 of `f` are stored (R35). -/
structure ResetValues where
  a : Byte
  f : Byte
  b : Byte
  c : Byte
  d : Byte
  e : Byte
  h : Byte
  l : Byte
  sp : Word
  pc : Word
  ime : Bool
  halted : Bool
  cyc : Nat
  ifByte : Byte
  ieByte : Byte
  timer : Timer
  ramEnabled : Bool
  ramBank : Fin 4
  rtcMapped : Bool
  rtcSel : Fin 5
  rtcLive : Rtc
  rtcLatched : Rtc
  latchArmed : Bool
  rtcAcc : Nat
  rtcStamp : BitVec 32
deriving DecidableEq, Repr

/-- The parameter `initMem` of R7: what the backing array and cartridge RAM hold after reset (R50, D40). IF and IE are registers:
`ResetValues` gives them. -/
structure InitMem where
  mem : Memory
  ram : Memory
deriving DecidableEq, Repr

/-- The machine right after reset, for any parameters (R7, R50, R530): the document's own value is bank 1, no fatal error is latched
(R39), and the model's count of draws starts at 0. -/
def State.resetWith (p : Params) (rv : ResetValues) (init : InitMem) : State where
  cpu := { a := rv.a, f := rv.f &&& 0xF0, b := rv.b, c := rv.c, d := rv.d, e := rv.e, h := rv.h, l := rv.l,
           sp := rv.sp, pc := rv.pc, ime := rv.ime, halted := rv.halted, cyc := rv.cyc, fault := none }
  timer := rv.timer
  cart := { romBankNum := 1, ramEnabled := rv.ramEnabled, ramBank := rv.ramBank, rtcMapped := rv.rtcMapped,
            rtcSel := rv.rtcSel, ram := init.ram, rtcLive := rv.rtcLive, rtcLatched := rv.rtcLatched,
            latchArmed := rv.latchArmed, rtcAcc := rv.rtcAcc, rtcStamp := rv.rtcStamp }
  mem := (init.mem.write 0xFF0F rv.ifByte).write 0xFFFF rv.ieByte
  params := p
  draws := 0

/-- The defaults of R7 for the mode, the period and the collaborators (D26, D19: log 8, log 6), and no ROM loaded (log 4). -/
def Params.defaults : Params where
  rom := { size := 0, cells := [] }
  cartKind := .romOnly
  rtcMode := .system
  rtcCyclesPerTick := Config.rtcCyclesPerTick
  ext := .stub

/-- The defaults of `ResetValues`: the table of R50 (D12, log 1; the RTC registers log 3, the stamp log 9). -/
def ResetValues.defaults : ResetValues where
  a := 0x01
  f := 0xB0
  b := 0x00
  c := 0x13
  d := 0x00
  e := 0xD8
  h := 0x01
  l := 0x4D
  sp := 0xFFFE
  pc := 0x0100
  ime := false
  halted := false
  cyc := 0
  ifByte := 0x00
  ieByte := 0x00
  timer := { counter := 0x0000, tima := 0x00, tma := 0x00, tac := 0x00, prevSig := false, reloadDelay := 0 }
  ramEnabled := false
  ramBank := 0
  rtcMapped := false
  rtcSel := 0
  rtcLive := Rtc.zero
  rtcLatched := Rtc.zero
  latchArmed := false
  rtcAcc := 0
  rtcStamp := 0

/-- The simulator default of `initMem`: every byte 0x00 (D40, log 2, log 3). -/
def InitMem.zero : InitMem := { mem := [], ram := [] }

/-- The machine right after reset with every parameter at its default. -/
def State.reset : State := State.resetWith Params.defaults ResetValues.defaults InitMem.zero

end Sys2Proof.Machine
end

