-- ==== Sys2Proof/Machine/Cartridge.lean ====
section
/-! DEFINITION. The cartridge controller of spec/62_cartridge.md: the command writes of MBC1 and MBC3, the RAM and RTC window,
the latch, and the clock. -/

namespace Sys2Proof.Machine

/-- `hasRam(cartKind)` (R477). -/
def hasRam : CartKind → Bool
  | .romOnly => false
  | .mbc1 => false
  | .mbc3 => true
  | .mbc3Timer => true

/-- The image offset that a ROM address 0x0000 to 0x7FFF names (R473, R474). The bank number is not reduced (R475). -/
def Cart.romOffset (c : Cart) (a : Word) : Nat :=
  if a.toNat < 0x4000 then a.toNat else c.romBankNum.toNat * 0x4000 + (a.toNat - 0x4000)

/-- Register `i` of the RTC file, in the index order of R496. -/
def Rtc.get (r : Rtc) (i : Fin 5) : Byte :=
  match i with
  | 0 => r.seconds
  | 1 => r.minutes
  | 2 => r.hours
  | 3 => r.daysLower
  | 4 => r.daysUpper

/-- Replace register `i` of the RTC file. -/
def Rtc.set (r : Rtc) (i : Fin 5) (v : Byte) : Rtc :=
  match i with
  | 0 => { r with seconds := v }
  | 1 => { r with minutes := v }
  | 2 => { r with hours := v }
  | 3 => { r with daysLower := v }
  | 4 => { r with daysUpper := v }

/-- `RTC_MASK[i]` (R496). -/
def Rtc.mask (i : Fin 5) : Byte :=
  match i with
  | 0 => 0x3F
  | 1 => 0x3F
  | 2 => 0x1F
  | 3 => 0xFF
  | 4 => 0xC1

/-- The halt bit, bit 6 of days-upper (R496, R502). -/
def Rtc.halted (r : Rtc) : Bool := r.daysUpper.getLsbD 6

/-- The 9-bit day counter (R496). -/
def Rtc.days (r : Rtc) : Nat := r.daysLower.toNat + 256 * (r.daysUpper.toNat % 2)

/-- The day counter's step with its wrap at 9 bits and the overflow flag (R501). -/
def Rtc.tickDay (r : Rtc) : Rtc :=
  let d := r.days + 1
  if d > 0x1FF then { r with daysLower := 0x00, daysUpper := (r.daysUpper ||| 0x80) &&& 0xC0 }
  else { r with daysLower := BitVec.ofNat 8 d, daysUpper := (r.daysUpper &&& 0xC0) ||| BitVec.ofNat 8 (d / 256) }

/-- `RtcTickSecond()`: seconds to minutes to hours to days, the compares being ≥ (R501). -/
def Rtc.tickSecond (r : Rtc) : Rtc :=
  if r.seconds.toNat + 1 < 60 then { r with seconds := r.seconds + 1 }
  else if r.minutes.toNat + 1 < 60 then { r with seconds := 0, minutes := r.minutes + 1 }
  else if r.hours.toNat + 1 < 24 then { r with seconds := 0, minutes := 0, hours := r.hours + 1 }
  else Rtc.tickDay { r with seconds := 0, minutes := 0, hours := 0 }

/-- `RtcTickSecond()` n times. -/
def Rtc.tickSeconds : Nat → Rtc → Rtc
  | 0, r => r
  | n + 1, r => Rtc.tickSeconds n r.tickSecond

/-- MBC1's ROM bank register, low five bits, 0 replaced by 1 (R480). -/
def mbc1BankLow (bank : BitVec 7) (v : Byte) : BitVec 7 :=
  let low : BitVec 7 := (v &&& 0x1F).setWidth 7
  (bank &&& 0x60) ||| (if low = 0 then 1 else low)

/-- MBC1's ROM bank register, bits 5 and 6 (R481). -/
def mbc1BankHigh (bank : BitVec 7) (v : Byte) : BitVec 7 := (bank &&& 0x1F) ||| ((v &&& 0x03).setWidth 7 <<< 5)

/-- MBC3's ROM bank register, 0 replaced by 1 (R491). -/
def mbc3Bank (v : Byte) : BitVec 7 :=
  let b : BitVec 7 := v.setWidth 7
  if b = 0 then 1 else b

/-- MBC3's select register at 0x4000 to 0x5FFF: a RAM bank, an RTC register on a timer cartridge, or nothing (R492). -/
def Cart.select (c : Cart) (timer : Bool) (v : Byte) : Cart :=
  if h : v.toNat ≤ 0x03 then { c with ramBank := ⟨v.toNat, by omega⟩, rtcMapped := false }
  else if h : 0x08 ≤ v.toNat ∧ v.toNat ≤ 0x0C then
    (if timer then { c with rtcSel := ⟨v.toNat - 0x08, by omega⟩, rtcMapped := true } else c)
  else c

/-- The latch protocol of a timer cartridge (R493). -/
def Cart.latch (c : Cart) (v : Byte) : Cart :=
  if v = 0x00 then { c with latchArmed := true }
  else if v = 0x01 ∧ c.latchArmed = true then { c with rtcLatched := c.rtcLive, latchArmed := false }
  else { c with latchArmed := false }

/-- `CartWrite(addr, v)` for 0x0000 to 0x7FFF: the cartridge commands (R476, R480 to R483, R490 to R493). -/
def Cart.command (kind : CartKind) (a : Word) (v : Byte) (c : Cart) : Cart :=
  match kind with
  | .romOnly => c
  | .mbc1 =>
    if a.toNat < 0x2000 then c
    else if a.toNat < 0x4000 then { c with romBankNum := mbc1BankLow c.romBankNum v }
    else if a.toNat < 0x6000 then { c with romBankNum := mbc1BankHigh c.romBankNum v }
    else c
  | .mbc3 =>
    if a.toNat < 0x2000 then { c with ramEnabled := decide (v &&& 0x0F = 0x0A) }
    else if a.toNat < 0x4000 then { c with romBankNum := mbc3Bank v }
    else if a.toNat < 0x6000 then c.select false v
    else c
  | .mbc3Timer =>
    if a.toNat < 0x2000 then { c with ramEnabled := decide (v &&& 0x0F = 0x0A) }
    else if a.toNat < 0x4000 then { c with romBankNum := mbc3Bank v }
    else if a.toNat < 0x6000 then c.select true v
    else c.latch v

/-- The offset into cartridge RAM that an address of the window 0xA000 to 0xBFFF names (R494, R495). -/
def Cart.ramOffset (c : Cart) (a : Word) : Nat := c.ramBank.val * 0x2000 + (a.toNat - 0xA000)

/-- `CartRead(addr)` for 0xA000 to 0xBFFF on a cartridge with RAM (R494). -/
def Cart.windowRead (c : Cart) (a : Word) : Byte :=
  if c.ramEnabled = false then 0x00
  else if c.rtcMapped then c.rtcLatched.get c.rtcSel
  else c.ram.read (c.ramOffset a)

/-- A write to the live RTC register `i` under its mask; a seconds write clears the accumulator (R495, R503). -/
def Cart.rtcWrite (c : Cart) (i : Fin 5) (v : Byte) : Cart :=
  { c with rtcLive := c.rtcLive.set i (v &&& Rtc.mask i), rtcAcc := if i = 0 then 0 else c.rtcAcc }

/-- `CartWrite(addr, v)` for 0xA000 to 0xBFFF on a cartridge with RAM (R495). -/
def Cart.windowWrite (c : Cart) (a : Word) (v : Byte) : Cart :=
  if c.ramEnabled = false then c
  else if c.rtcMapped then c.rtcWrite c.rtcSel v
  else { c with ram := c.ram.write (c.ramOffset a) v }

/-- The system-mode clock: n more cycles, one RTC second per `period` accumulated (R500). A period of 0 never ticks (log 8). -/
def Cart.clock (period n : Nat) (c : Cart) : Cart :=
  let acc := c.rtcAcc + n
  { c with rtcAcc := acc % period, rtcLive := Rtc.tickSeconds (acc / period) c.rtcLive }

/-- The wallclock-mode catch-up: `k` elapsed seconds (R504). -/
def Cart.catchUp (k : Nat) (c : Cart) : Cart :=
  { c with rtcLive := Rtc.tickSeconds k c.rtcLive, rtcStamp := c.rtcStamp + BitVec.ofNat 32 k }

end Sys2Proof.Machine
end

