-- ==== Sys2Proof/Machine/Timer.lean ====
section
/-! DEFINITION. The DIV/TIMA timer engine of spec/61_timer.md: the falling-edge detector, the delayed reload, one cycle at a
time, and the register accesses. -/

namespace Sys2Proof.Machine

/-- `SEL_BIT`, the counter bit that the select field watches (R443). -/
def Timer.selBit (tac : Byte) : Nat :=
  match tac.toNat % 4 with
  | 0 => 9
  | 1 => 3
  | 2 => 5
  | _ => 7

/-- `Signal()`, the input of the falling-edge detector: TAC's enable bit and the selected counter bit (R444). -/
def Timer.signal (t : Timer) : Bool := t.tac.getLsbD 2 && t.counter.getLsbD (Timer.selBit t.tac)

/-- `IncTIMA()` (R445). -/
def Timer.incTima (t : Timer) : Timer :=
  if t.tima = 0xFF then { t with tima := 0x00, reloadDelay := 4 } else { t with tima := t.tima + 1 }

/-- `EdgeCheck()` (R444). -/
def Timer.edgeCheck (t : Timer) : Timer :=
  let s := t.signal
  let t' := if t.prevSig && !s then t.incTima else t
  { t' with prevSig := s }

/-- The countdown of a pending reload; the Bool says that the reload happened and the interrupt is requested (R446, R447). -/
def Timer.countdown (t : Timer) : Timer × Bool :=
  match t.reloadDelay with
  | 0 => (t, false)
  | 1 => ({ t with reloadDelay := 0, tima := t.tma }, true)
  | n + 2 => ({ t with reloadDelay := n + 1 }, false)

/-- `TimerCycle()`: countdown, then the counter, then the edge check (R447). The Bool is the interrupt request. -/
def Timer.cycle (t : Timer) : Timer × Bool :=
  let (t1, req) := t.countdown
  (Timer.edgeCheck { t1 with counter := t1.counter + 1 }, req)

/-- `TimerStep(n)`: n timer cycles, one at a time (R448). The Bool says that one of them requested the interrupt. -/
def Timer.steps : Nat → Timer → Timer × Bool
  | 0, t => (t, false)
  | n + 1, t =>
    let (t1, r1) := t.cycle
    let (t2, r2) := Timer.steps n t1
    (t2, r1 || r2)

/-- `TimerRead(addr)` for 0xFF04 to 0xFF07 (R440, R449). -/
def Timer.read (t : Timer) (a : Word) : Byte :=
  match a.toNat % 4 with
  | 0 => t.counter.extractLsb' 8 8
  | 1 => t.tima
  | 2 => t.tma
  | _ => t.tac

/-- `TimerWrite(addr, v)` for 0xFF04 to 0xFF07: a DIV write clears the counter whatever the value, and DIV and TAC writes run
the edge check (R440, R450 to R453). -/
def Timer.write (t : Timer) (a : Word) (v : Byte) : Timer :=
  match a.toNat % 4 with
  | 0 => Timer.edgeCheck { t with counter := 0x0000 }
  | 1 => { t with tima := v }
  | 2 => { t with tma := v }
  | _ => Timer.edgeCheck { t with tac := v }

end Sys2Proof.Machine
end

