-- ==== Sys2Proof/Machine/Bus.lean ====
section
/-! DEFINITION. The address decoder of spec/20_memory.md: the address map, the routed byte accesses, the clock sink `Tick`,
and the charged accesses of one and two bytes. -/

namespace Sys2Proof.Machine

/-- The rows of the address map (R82). `flat` covers 0xFE00–0xFEFF and the flat ranges of 0xFF01–0xFFFE. -/
inductive Region
  | romFixed | romBanked | videoRam | cartWindow | workRam | echo | flat | joypad | timer | intRequest | apu | ppu | intEnable
deriving DecidableEq, Repr

/-- The region of an address (R82). -/
def region (a : Word) : Region :=
  let n := a.toNat
  if n < 0x4000 then .romFixed
  else if n < 0x8000 then .romBanked
  else if n < 0xA000 then .videoRam
  else if n < 0xC000 then .cartWindow
  else if n < 0xE000 then .workRam
  else if n < 0xFE00 then .echo
  else if n < 0xFF00 then .flat
  else if n = 0xFF00 then .joypad
  else if n < 0xFF04 then .flat
  else if n < 0xFF08 then .timer
  else if n < 0xFF0F then .flat
  else if n = 0xFF0F then .intRequest
  else if n < 0xFF27 then .apu
  else if n < 0xFF40 then .flat
  else if n < 0xFF4C then .ppu
  else if n < 0xFFFF then .flat
  else .intEnable

/-- The storage byte behind an address: a byte of the backing array, of the ROM image or of cartridge RAM, or no storage byte
(a timer register, the disabled or RTC-mapped window, the port of an open collaborator). -/
inductive Backing
  | mem (k : Nat)
  | rom (off : Nat)
  | ram (off : Nat)
  | device
deriving DecidableEq, Repr

/-- Which storage byte stands behind address `a` at this moment (R83 to R93). -/
def backing (a : Word) (s : State) : Backing :=
  match region a with
  | .romFixed | .romBanked => .rom (s.cart.romOffset a)
  | .videoRam | .joypad | .apu | .ppu =>
    match s.params.ext with
    | .stub => .mem a.toNat
    | .collaborators => .device
  | .cartWindow =>
    if hasRam s.params.cartKind then
      (if s.cart.ramEnabled && !s.cart.rtcMapped then .ram (s.cart.ramOffset a) else .device)
    else .mem a.toNat
  | .echo => .mem (a.toNat - 0x2000)
  | .timer => .device
  | .workRam | .flat | .intRequest | .intEnable => .mem a.toNat

/-- The interrupt-request byte IF (R41). -/
def State.ifByte (s : State) : Byte := s.mem.read 0xFF0F

/-- The interrupt-enable byte IE (R42). -/
def State.ieByte (s : State) : Byte := s.mem.read 0xFFFF

/-- Hardware's uncharged write of IF (R98). -/
def State.setIf (v : Byte) (s : State) : State := { s with mem := s.mem.write 0xFF0F v }

/-- Request the interrupts whose bits are set in `bits` (R404, R446). -/
def State.request (bits : Byte) (s : State) : State := s.setIf (s.ifByte ||| bits)

/-- A read of the ROM image: the byte at the offset, or beyond the image a fresh free byte (R473 to R475). -/
def romRead (off : Nat) (s : State) : Byte × State :=
  match s.params.rom.byte off with
  | some v => (v, s)
  | none => (Config.romOutOfRange s.draws, { s with draws := s.draws + 1 })

/-- `ExtRead(addr)` (R90): the stub's byte, or a collaborator's fresh answer. -/
def extRead (a : Word) (s : State) : Byte × State :=
  match s.params.ext with
  | .stub => (s.mem.read a.toNat, s)
  | .collaborators => (Config.extRead s.draws, { s with draws := s.draws + 1 })

/-- `ExtWrite(addr, v)` (R91): the stub stores the byte; an open collaborator takes it and no state of this hardware changes. -/
def extWrite (a : Word) (v : Byte) (s : State) : State :=
  match s.params.ext with
  | .stub => { s with mem := s.mem.write a.toNat v }
  | .collaborators => s

/-- `Route_read(addr)`: exactly one byte, no cycles charged (R83 to R93). -/
def routeRead (a : Word) (s : State) : Byte × State :=
  match region a with
  | .romFixed | .romBanked => romRead (s.cart.romOffset a) s
  | .videoRam | .joypad | .apu | .ppu => extRead a s
  | .cartWindow => if hasRam s.params.cartKind then (s.cart.windowRead a, s) else (s.mem.read a.toNat, s)
  | .echo => (s.mem.read (a.toNat - 0x2000), s)
  | .timer => (s.timer.read a, s)
  | .workRam | .flat | .intRequest | .intEnable => (s.mem.read a.toNat, s)

/-- `Route_write(addr, v)`: exactly one byte, no cycles charged (R83 to R93). -/
def routeWrite (a : Word) (v : Byte) (s : State) : State :=
  match region a with
  | .romFixed | .romBanked => { s with cart := s.cart.command s.params.cartKind a v }
  | .videoRam | .joypad | .apu | .ppu => extWrite a v s
  | .cartWindow =>
    if hasRam s.params.cartKind then { s with cart := s.cart.windowWrite a v } else { s with mem := s.mem.write a.toNat v }
  | .echo => { s with mem := s.mem.write (a.toNat - 0x2000) v }
  | .timer => { s with timer := s.timer.write a v }
  | .workRam | .flat | .intRequest | .intEnable => { s with mem := s.mem.write a.toNat v }

/-- `TimerStep(n)` with its interrupt request, bit 2 of IF (R446, R448). -/
def timerStep (n : Nat) (s : State) : State :=
  let (t, req) := Timer.steps n s.timer
  let s' := { s with timer := t }
  if req then s'.request 0x04 else s'

/-- `CartStep(n)` (R500, R502, R504): nothing without a timer or while the halt bit is set. -/
def cartStep (n : Nat) (s : State) : State :=
  match s.params.cartKind with
  | .romOnly | .mbc1 | .mbc3 => s
  | .mbc3Timer =>
    if s.cart.rtcLive.halted then s
    else
      match s.params.rtcMode with
      | .system => { s with cart := s.cart.clock s.params.rtcCyclesPerTick n }
      | .wallclock => { s with cart := s.cart.catchUp (Config.wallclockSeconds s.draws), draws := s.draws + 1 }

/-- `ExtStep(n)` (R94, R404): the stub does nothing; open collaborators may request VBlank and LCDSTAT. -/
def extStep (s : State) : State :=
  match s.params.ext with
  | .stub => s
  | .collaborators =>
    let s' := s.request ((Config.extRequest s.draws).setWidth 8)
    { s' with draws := s.draws + 1 }

/-- `Tick(n)`, the clock sink (R94). -/
def tick (n : Nat) (s : State) : State :=
  extStep (cartStep n (timerStep n { s with cpu := { s.cpu with cyc := s.cpu.cyc + n } }))

/-- `MemRead(addr, 1)`: route the byte, then charge its 4 cycles (R95). -/
def memRead (a : Word) (s : State) : Byte × State :=
  let (v, s') := routeRead a s
  (v, tick Config.accessCycles s')

/-- `MemWrite(addr, 1, v)`: route the byte, then charge its 4 cycles (R96). -/
def memWrite (a : Word) (v : Byte) (s : State) : State := tick Config.accessCycles (routeWrite a v s)

end Sys2Proof.Machine
end

