-- ==== Sys2Proof/Machine/Ops.lean ====
section
/-! DEFINITION. The named operations over registers and memory that the instructions share: register and pair access, two-byte
accesses, fetches, the stack, the fatal error, interrupt entry and the interrupt check, and the return from a handler. -/

namespace Sys2Proof.Machine

/-- Every meaning answers with the next state: no instruction of this hardware stops (R401, R146). -/
abbrev Result := Host.Outcome State Fault Refusal

/-- Read an 8-bit register (R30). -/
def State.reg8 (r : Reg8) (s : State) : Byte :=
  match r with
  | .b => s.cpu.b
  | .c => s.cpu.c
  | .d => s.cpu.d
  | .e => s.cpu.e
  | .h => s.cpu.h
  | .l => s.cpu.l
  | .a => s.cpu.a

/-- Write an 8-bit register (R30). -/
def State.setReg8 (r : Reg8) (v : Byte) (s : State) : State :=
  match r with
  | .b => { s with cpu := { s.cpu with b := v } }
  | .c => { s with cpu := { s.cpu with c := v } }
  | .d => { s with cpu := { s.cpu with d := v } }
  | .e => { s with cpu := { s.cpu with e := v } }
  | .h => { s with cpu := { s.cpu with h := v } }
  | .l => { s with cpu := { s.cpu with l := v } }
  | .a => { s with cpu := { s.cpu with a := v } }

/-- The one write path to F: only bits 7 to 4 are stored (R35). -/
def State.setF (v : Byte) (s : State) : State := { s with cpu := { s.cpu with f := v &&& 0xF0 } }

/-- The flags are bit views of F (R34). -/
def State.flagZ (s : State) : Bool := s.cpu.f.getLsbD 7
/-- Flag N (R34). -/
def State.flagN (s : State) : Bool := s.cpu.f.getLsbD 6
/-- Flag H (R34). -/
def State.flagH (s : State) : Bool := s.cpu.f.getLsbD 5
/-- Flag C (R34). -/
def State.flagC (s : State) : Bool := s.cpu.f.getLsbD 4

/-- The pair views BC, DE, HL and SP (R31, R32). -/
def State.pair (p : Pair) (s : State) : Word :=
  match p with
  | .bc => joinBytes s.cpu.b s.cpu.c
  | .de => joinBytes s.cpu.d s.cpu.e
  | .hl => joinBytes s.cpu.h s.cpu.l
  | .sp => s.cpu.sp

/-- Write a pair: its high byte is the first-named register (R31, R32). -/
def State.setPair (p : Pair) (v : Word) (s : State) : State :=
  match p with
  | .bc => { s with cpu := { s.cpu with b := hiByte v, c := loByte v } }
  | .de => { s with cpu := { s.cpu with d := hiByte v, e := loByte v } }
  | .hl => { s with cpu := { s.cpu with h := hiByte v, l := loByte v } }
  | .sp => { s with cpu := { s.cpu with sp := v } }

/-- HL, the address of operand location 6 (R134). -/
def State.hl (s : State) : Word := s.pair .hl

/-- The pair AF (R31). -/
def State.af (s : State) : Word := joinBytes s.cpu.a s.cpu.f

/-- Write the pair AF: F stores only bits 7 to 4 (R31, R35). -/
def State.setAf (v : Word) (s : State) : State := { s with cpu := { s.cpu with a := hiByte v } }.setF (loByte v)

/-- Write the program counter (R33). -/
def State.setPc (v : Word) (s : State) : State := { s with cpu := { s.cpu with pc := v } }

/-- Write the stack pointer (R32). -/
def State.setSp (v : Word) (s : State) : State := { s with cpu := { s.cpu with sp := v } }

/-- Write the interrupt master enable (R36). -/
def State.setIme (v : Bool) (s : State) : State := { s with cpu := { s.cpu with ime := v } }

/-- Write `halted` (R37). -/
def State.setHalted (v : Bool) (s : State) : State := { s with cpu := { s.cpu with halted := v } }

/-- `MemRead(addr, 2)`: two byte reads, the low byte first at the lower address, each followed by its 4 cycles (R95, R103). -/
def memRead2 (a : Word) (s : State) : Word × State :=
  let (lo, s1) := memRead a s
  let (hi, s2) := memRead (a + 1) s1
  (joinBytes hi lo, s2)

/-- `MemWrite(addr, 2, v)`: two byte writes, the low byte first at the lower address, each followed by its 4 cycles (R96, R103). -/
def memWrite2 (a : Word) (v : Word) (s : State) : State := memWrite (a + 1) (hiByte v) (memWrite a (loByte v) s)

/-- `Fetch8()` (R99). -/
def fetch8 (s : State) : Byte × State :=
  let (b, s') := memRead s.cpu.pc s
  (b, s'.setPc (s'.cpu.pc + 1))

/-- The fetches that a first byte calls for (R130): a second byte, a 16-bit immediate or none. -/
def fetchRest (p : Plan) (s : State) : Instr × State :=
  match p with
  | .done i => (i, s)
  | .imm8 k =>
    let (n, s1) := fetch8 s
    (k n, s1)
  | .imm16 k =>
    let (lo, s1) := fetch8 s
    let (hi, s2) := fetch8 s1
    (k (joinBytes hi lo), s2)
  | .prefixed =>
    let (b1, s1) := fetch8 s
    (cbInstr b1, s1)

/-- The fetches of one instruction: the first byte, and the bytes that it calls for, each charged and each advancing PC (R99,
R100, R130, R133). The second answer is the state in which the instruction's own accesses begin. -/
def fetchInstr (s : State) : Instr × State :=
  let (b0, s1) := fetch8 s
  fetchRest (plan b0) s1

/-- `Push16(v)` (R204). -/
def push16 (v : Word) (s : State) : State :=
  let s' := s.setSp (s.cpu.sp - 2)
  memWrite2 s'.cpu.sp v s'

/-- `Pop16()` (R205). -/
def pop16 (s : State) : Word × State :=
  let (v, s') := memRead2 s.cpu.sp s
  (v, s'.setSp (s'.cpu.sp + 2))

/-- TAKING THE FATAL ERROR: `raise Fatal(opcode, addr)` latches the opcode byte and its fetch address (R400). -/
def raiseFatal (opcode : Byte) (addr : Word) (s : State) : State :=
  { s with cpu := { s.cpu with fault := some (opcode, addr) } }

/-- The fixed vector of request bit `i` (R403, R410). -/
def interruptVector (i : Nat) : Word := BitVec.ofNat 16 (0x0040 + 8 * i)

/-- TAKING AN INTERRUPT: 8 idle cycles, clear the serviced request bit as it then stands, clear IME, push PC, and go to the
fixed vector (R407, R409). -/
def enterInterrupt (i : Nat) (s : State) : State :=
  let s1 := tick 8 s
  let s2 := s1.setIf (s1.ifByte &&& ~~~(1#8 <<< i))
  let s3 := s2.setIme false
  (push16 s3.cpu.pc s3).setPc (interruptVector i)

/-- THE RETURN FROM A HANDLER: pop PC, 4 cycles, set IME (R339, R412). -/
def returnFromInterrupt (s : State) : State :=
  let (v, s1) := pop16 s
  (tick 4 (s1.setPc v)).setIme true

/-- The scan of the interrupt check over the sampled bytes IF and IE: each request clears `halted`, and the first that is also
enabled, with IME set, is entered and ends the scan (R406 to R408). -/
def interruptScan (ifv iev : Byte) : List Nat → State → State
  | [], s => s
  | i :: is, s =>
    if ifv.getLsbD i then
      (if s.cpu.ime && iev.getLsbD i then enterInterrupt i (s.setHalted false)
       else interruptScan ifv iev is (s.setHalted false))
    else interruptScan ifv iev is s

/-- `InterruptCheck()` (R407): IF and IE are sampled once, without cycles. -/
def interruptCheck (s : State) : State := interruptScan s.ifByte s.ieByte [0, 1, 2, 3, 4] s

/-- What the collaborators may do between two steps: with the stub nothing, else the Joypad may request its interrupt (R404). -/
def betweenSteps (s : State) : State :=
  match s.params.ext with
  | .stub => s
  | .collaborators =>
    let s' := if Config.joypadRequest s.draws then s.request 0x10 else s
    { s' with draws := s'.draws + 1 }

/-- One idle tick of a halted CPU (R545). -/
def idleTick (s : State) : State := tick 4 s

/-- The end of a step after an instruction: the interrupt check, which a fatal error suppresses (R400, R414, R545). -/
def finishStep (r : Result) : Result :=
  match r with
  | .next s =>
    match s.cpu.fault with
    | none => .next (interruptCheck s)
    | some _ => .next s
  | .fault e => .fault e
  | .refused e => .refused e

/-- A storage byte that a program can be put into from outside: not a device, and not IF, which the timer writes. -/
def loadable (a : Word) (s : State) : Bool :=
  match backing a s with
  | .device => false
  | .mem k => decide (k ≠ 0xFF0F)
  | .rom _ => true
  | .ram _ => true

/-- Put one byte into the storage behind address `a`, from outside the machine (log 17). -/
def loadByte (a : Word) (v : Byte) (s : State) : State :=
  match backing a s with
  | .mem k => { s with mem := s.mem.write k v }
  | .rom off => { s with params := { s.params with rom := s.params.rom.set off v } }
  | .ram off => { s with cart := { s.cart with ram := s.cart.ram.write off v } }
  | .device => s

/-- No latched error: a step exists. -/
def clearFault (s : State) : State := { s with cpu := { s.cpu with fault := none } }

/-- Put an instruction's bytes where the next step fetches them (log 17): clear `halted` and `fault`, and where PC stands at a
device, move it to work RAM. -/
def placeBytes (b0 b1 b2 : Byte) (s : State) : State :=
  let s1 := (clearFault s).setHalted false
  let pc := s1.cpu.pc
  let s2 := if loadable pc s1 && loadable (pc + 1) s1 && loadable (pc + 2) s1 then s1 else s1.setPc 0xC000
  let at0 := s2.cpu.pc
  loadByte (at0 + 2) b2 (loadByte (at0 + 1) b1 (loadByte at0 b0 s2))

end Sys2Proof.Machine
end

