-- ==== Sys2Proof/Machine/Flags.lean ====
section
/-! DEFINITION. The flag policies of spec/42_alu8.md R219, as results and flag bytes computed on integers (R15), for the
8-bit and 16-bit arithmetic, DAA, and the rotates and shifts. -/

namespace Sys2Proof.Machine

/-- The flag byte with Z, N, H, C at bits 7 to 4 and a zero low nibble (R34, R35). -/
def packFlags (z n h c : Bool) : Byte :=
  BitVec.ofBool z ++ BitVec.ofBool n ++ BitVec.ofBool h ++ BitVec.ofBool c ++ (0#4)

/-- Write all four flags. -/
def State.setFlags (z n h c : Bool) (s : State) : State := s.setF (packFlags z n h c)

/-- ADD and ADC: the sum with an input carry, and its flags (R221, R222). -/
def addFlags (a v : Byte) (cin : Bool) : Byte × Byte :=
  let s := a.toNat + v.toNat + cin.toNat
  (BitVec.ofNat 8 s,
   packFlags (s % 256 = 0) false (a.toNat % 16 + v.toNat % 16 + cin.toNat > 0x0F) (s > 0xFF))

/-- SUB, SBC and CP: the difference with an input borrow, and its flags (R223, R224, R228). -/
def subFlags (a v : Byte) (cin : Bool) : Byte × Byte :=
  let d := BitVec.ofInt 8 ((a.toNat : Int) - v.toNat - cin.toNat)
  (d, packFlags (d = 0) true (a.toNat % 16 < v.toNat % 16 + cin.toNat) (v.toNat + cin.toNat > a.toNat))

/-- One operation of the accumulator block: the new A and the new F (R221 to R228). CP keeps A. -/
def aluResult (op : AluOp) (a v : Byte) (carry : Bool) : Byte × Byte :=
  match op with
  | .add => addFlags a v false
  | .adc => addFlags a v carry
  | .sub => subFlags a v false
  | .sbc => subFlags a v carry
  | .and => (a &&& v, packFlags (a &&& v = 0) false true false)
  | .xor => (a ^^^ v, packFlags (a ^^^ v = 0) false false false)
  | .or => (a ||| v, packFlags (a ||| v = 0) false false false)
  | .cp => (a, (subFlags a v false).2)

/-- 8-bit INC: the result and the new F; C is kept (R231). -/
def incFlags (v : Byte) (carry : Bool) : Byte × Byte :=
  let r := v + 1
  (r, packFlags (r = 0) false (v.toNat % 16 = 0x0F) carry)

/-- 8-bit DEC: the result and the new F; C is kept (R233). -/
def decFlags (v : Byte) (carry : Bool) : Byte × Byte :=
  let r := v - 1
  (r, packFlags (r = 0) true (v.toNat % 16 = 0x00) carry)

/-- DAA: the adjusted accumulator and the new carry (R235). -/
def daaAdjust (a : Byte) (n h c : Bool) : Byte × Bool :=
  if n then
    let a1 := if c then a - 0x60 else a
    (if h then a1 - 0x06 else a1, c)
  else
    let high := c || decide (a.toNat > 0x99)
    let a1 := if high then a + 0x60 else a
    (if h || decide (a.toNat % 16 > 0x09) then a1 + 0x06 else a1, high)

/-- ADD HL,rr: the sum and the new F; Z is kept (R272). -/
def addHlFlags (hl v : Word) (z : Bool) : Word × Byte :=
  let s := hl.toNat + v.toNat
  (BitVec.ofNat 16 s, packFlags z false (hl.toNat % 0x1000 + v.toNat % 0x1000 > 0x0FFF) (s > 0xFFFF))

/-- SP plus a displacement: the sum, and the flags of the unsigned byte addition (R203, R273). -/
def spPlusFlags (sp : Word) (e : Byte) : Word × Byte :=
  (sp + sext16 e,
   packFlags false false (sp.toNat % 16 + e.toNat % 16 > 0x0F) (sp.toNat % 256 + e.toNat > 0xFF))

/-- The rotates, shifts and SWAP: the result and the bit shifted out (R280 to R283, R285 to R292). -/
def rotResult (op : RotOp) (v : Byte) (carry : Bool) : Byte × Bool :=
  match op with
  | .rlc => ((v <<< 1) ||| (BitVec.ofBool (v.getLsbD 7)).setWidth 8, v.getLsbD 7)
  | .rrc => ((v >>> 1) ||| ((BitVec.ofBool (v.getLsbD 0)).setWidth 8 <<< 7), v.getLsbD 0)
  | .rl => ((v <<< 1) ||| (BitVec.ofBool carry).setWidth 8, v.getLsbD 7)
  | .rr => ((v >>> 1) ||| ((BitVec.ofBool carry).setWidth 8 <<< 7), v.getLsbD 0)
  | .sla => (v <<< 1, v.getLsbD 7)
  | .sra => ((v >>> 1) ||| (v &&& 0x80), v.getLsbD 0)
  | .swap => ((v <<< 4) ||| (v >>> 4), false)
  | .srl => (v >>> 1, v.getLsbD 0)

/-- A byte with bit `b` cleared (R294). -/
def clearBit (b : Fin 8) (v : Byte) : Byte := v &&& ~~~(1#8 <<< b.val)

/-- A byte with bit `b` set (R295). -/
def setBit (b : Fin 8) (v : Byte) : Byte := v ||| (1#8 <<< b.val)

end Sys2Proof.Machine
end

