-- ==== Sys2Proof/Machine/Operands.lean ====
section
/-! DEFINITION. The operand forms of spec/30_encoding.md R134 to R137 as accesses of the machine, and the addresses that the
8-bit loads form from registers (spec/40_load8.md). -/

namespace Sys2Proof.Machine

/-- Read operand location `r8[i]`; (HL) is a charged byte read (R134). -/
def readLoc8 (x : Loc8) (s : State) : Byte × State :=
  match x with
  | .reg r => (s.reg8 r, s)
  | .atHL => memRead s.hl s

/-- Write operand location `r8[i]`; (HL) is a charged byte write (R134). -/
def writeLoc8 (x : Loc8) (v : Byte) (s : State) : State :=
  match x with
  | .reg r => s.setReg8 r v
  | .atHL => memWrite s.hl v s

/-- Read a pair of `rp2` (R136). -/
def readStackPair (p : StackPair) (s : State) : Word :=
  match p with
  | .bc => s.pair .bc
  | .de => s.pair .de
  | .hl => s.pair .hl
  | .af => s.af

/-- Write a pair of `rp2`; AF drops the low nibble of F (R136, R207). -/
def writeStackPair (p : StackPair) (v : Word) (s : State) : State :=
  match p with
  | .bc => s.setPair .bc v
  | .de => s.setPair .de v
  | .hl => s.setPair .hl v
  | .af => s.setAf v

/-- Whether condition `cc[i]` holds (R137). -/
def condHolds (cc : Cond) (s : State) : Bool :=
  match cc with
  | .nz => !s.flagZ
  | .z => s.flagZ
  | .nc => !s.flagC
  | .c => s.flagC

/-- The high-page address 0xFF00 + offset (R173 to R176). -/
def highPage (n : Byte) : Word := 0xFF00#16 + n.setWidth 16

/-- The address that a register-indirect load or store of A uses (R165 to R172, R175, R176). -/
def addrOf (x : AddrReg) (s : State) : Word :=
  match x with
  | .bc => s.pair .bc
  | .de => s.pair .de
  | .hlInc | .hlDec => s.hl
  | .highC => highPage s.cpu.c

/-- The update of HL after the access: +1, −1 or none, modulo 2^16 (R167, R168, R171, R172). -/
def afterAddr (x : AddrReg) (s : State) : State :=
  match x with
  | .hlInc => s.setPair .hl (s.hl + 1)
  | .hlDec => s.setPair .hl (s.hl - 1)
  | .bc | .de | .highC => s

end Sys2Proof.Machine
end

