-- ==== Sys2Proof/Machine/Alu16.lean ====
section
/-! DEFINITION. 16-bit arithmetic (spec/43_alu16.md). -/

namespace Sys2Proof.Machine

/-- INC rr: no flag changes (R270). -/
def incPair (p : Pair) (s : State) : State := tick 4 (s.setPair p (s.pair p + 1))

/-- DEC rr: no flag changes (R271). -/
def decPair (p : Pair) (s : State) : State := tick 4 (s.setPair p (s.pair p - 1))

/-- ADD HL,rr: Z unaffected (R272). -/
def addHLPair (p : Pair) (s : State) : State :=
  let (v, f) := addHlFlags s.hl (s.pair p) s.flagZ
  tick 4 ((s.setF f).setPair .hl v)

/-- ADD SP,e (R273). -/
def addSPE (e : Byte) (s : State) : State :=
  let (v, f) := spPlusFlags s.cpu.sp e
  tick 8 ((s.setF f).setSp v)

/-- INC BC: byte 0x03 (R270). -/
def execIncBC (s : State) : Result := .next (incPair .bc s)
/-- ADD HL,BC: byte 0x09 (R272). -/
def execAddHLBC (s : State) : Result := .next (addHLPair .bc s)
/-- DEC BC: byte 0x0B (R271). -/
def execDecBC (s : State) : Result := .next (decPair .bc s)
/-- INC DE: byte 0x13 (R270). -/
def execIncDE (s : State) : Result := .next (incPair .de s)
/-- ADD HL,DE: byte 0x19 (R272). -/
def execAddHLDE (s : State) : Result := .next (addHLPair .de s)
/-- DEC DE: byte 0x1B (R271). -/
def execDecDE (s : State) : Result := .next (decPair .de s)
/-- INC HL: byte 0x23 (R270). -/
def execIncHL (s : State) : Result := .next (incPair .hl s)
/-- ADD HL,HL: byte 0x29 (R272). -/
def execAddHLHL (s : State) : Result := .next (addHLPair .hl s)
/-- DEC HL: byte 0x2B (R271). -/
def execDecHL (s : State) : Result := .next (decPair .hl s)
/-- INC SP: byte 0x33 (R270). -/
def execIncSP (s : State) : Result := .next (incPair .sp s)
/-- ADD HL,SP: byte 0x39 (R272). -/
def execAddHLSP (s : State) : Result := .next (addHLPair .sp s)
/-- DEC SP: byte 0x3B (R271). -/
def execDecSP (s : State) : Result := .next (decPair .sp s)
/-- ADD SP,e: byte 0xE8 (R273). -/
def execAddSPE (e : Byte) (s : State) : Result := .next (addSPE e s)

end Sys2Proof.Machine
end

