-- ==== Sys2Proof/Machine/Alu8.lean ====
section
/-! DEFINITION. 8-bit arithmetic and logic (spec/42_alu8.md). -/

namespace Sys2Proof.Machine

/-- One operation of the accumulator block with operand value `v`: A and F (R221 to R228). -/
def aluApply (op : AluOp) (v : Byte) (s : State) : State :=
  let (r, f) := aluResult op s.cpu.a v s.flagC
  (s.setReg8 .a r).setF f

/-- The accumulator block on an operand location; the operand is obtained before A or F changes (R220). -/
def aluLoc (op : AluOp) (x : Loc8) (s : State) : State :=
  let (v, s1) := readLoc8 x s
  aluApply op v s1

/-- The accumulator block on an immediate (R220). -/
def aluImm (op : AluOp) (n : Byte) (s : State) : State := aluApply op n s

/-- INC r and INC (HL): read, flags, write back; C unaffected (R231, R232). -/
def incLoc (x : Loc8) (s : State) : State :=
  let (v, s1) := readLoc8 x s
  let (r, f) := incFlags v s1.flagC
  writeLoc8 x r (s1.setF f)

/-- DEC r and DEC (HL) (R233, R234). -/
def decLoc (x : Loc8) (s : State) : State :=
  let (v, s1) := readLoc8 x s
  let (r, f) := decFlags v s1.flagC
  writeLoc8 x r (s1.setF f)

/-- DAA: N is kept, H cleared, Z from the result (R235). -/
def daa (s : State) : State :=
  let (r, c) := daaAdjust s.cpu.a s.flagN s.flagH s.flagC
  (s.setReg8 .a r).setFlags (r = 0) s.flagN false c

/-- CPL: N and H set, Z and C kept (R236). -/
def cpl (s : State) : State := (s.setReg8 .a (s.cpu.a ^^^ 0xFF)).setFlags s.flagZ true true s.flagC

/-- SCF: Z kept (R237). -/
def scf (s : State) : State := s.setFlags s.flagZ false false true

/-- CCF: Z kept (R238). -/
def ccf (s : State) : State := s.setFlags s.flagZ false false (!s.flagC)

/-- INC B: byte 0x04 (R231). -/
def execIncB (s : State) : Result := .next (incLoc (.reg .b) s)
/-- DEC B: byte 0x05 (R233). -/
def execDecB (s : State) : Result := .next (decLoc (.reg .b) s)
/-- INC C: byte 0x0C (R231). -/
def execIncC (s : State) : Result := .next (incLoc (.reg .c) s)
/-- DEC C: byte 0x0D (R233). -/
def execDecC (s : State) : Result := .next (decLoc (.reg .c) s)
/-- INC D: byte 0x14 (R231). -/
def execIncD (s : State) : Result := .next (incLoc (.reg .d) s)
/-- DEC D: byte 0x15 (R233). -/
def execDecD (s : State) : Result := .next (decLoc (.reg .d) s)
/-- INC E: byte 0x1C (R231). -/
def execIncE (s : State) : Result := .next (incLoc (.reg .e) s)
/-- DEC E: byte 0x1D (R233). -/
def execDecE (s : State) : Result := .next (decLoc (.reg .e) s)
/-- INC H: byte 0x24 (R231). -/
def execIncH (s : State) : Result := .next (incLoc (.reg .h) s)
/-- DEC H: byte 0x25 (R233). -/
def execDecH (s : State) : Result := .next (decLoc (.reg .h) s)
/-- DAA: byte 0x27 (R235). -/
def execDaa (s : State) : Result := .next (daa s)
/-- INC L: byte 0x2C (R231). -/
def execIncL (s : State) : Result := .next (incLoc (.reg .l) s)
/-- DEC L: byte 0x2D (R233). -/
def execDecL (s : State) : Result := .next (decLoc (.reg .l) s)
/-- CPL: byte 0x2F (R236). -/
def execCpl (s : State) : Result := .next (cpl s)
/-- INC (HL): byte 0x34 (R232). -/
def execIncAtHL (s : State) : Result := .next (incLoc .atHL s)
/-- DEC (HL): byte 0x35 (R234). -/
def execDecAtHL (s : State) : Result := .next (decLoc .atHL s)
/-- SCF: byte 0x37 (R237). -/
def execScf (s : State) : Result := .next (scf s)
/-- INC A: byte 0x3C (R231). -/
def execIncA (s : State) : Result := .next (incLoc (.reg .a) s)
/-- DEC A: byte 0x3D (R233). -/
def execDecA (s : State) : Result := .next (decLoc (.reg .a) s)
/-- CCF: byte 0x3F (R238). -/
def execCcf (s : State) : Result := .next (ccf s)
/-- ADD A,B: byte 0x80 (R221). -/
def execAddAB (s : State) : Result := .next (aluLoc .add (.reg .b) s)
/-- ADD A,C: byte 0x81 (R221). -/
def execAddAC (s : State) : Result := .next (aluLoc .add (.reg .c) s)
/-- ADD A,D: byte 0x82 (R221). -/
def execAddAD (s : State) : Result := .next (aluLoc .add (.reg .d) s)
/-- ADD A,E: byte 0x83 (R221). -/
def execAddAE (s : State) : Result := .next (aluLoc .add (.reg .e) s)
/-- ADD A,H: byte 0x84 (R221). -/
def execAddAH (s : State) : Result := .next (aluLoc .add (.reg .h) s)
/-- ADD A,L: byte 0x85 (R221). -/
def execAddAL (s : State) : Result := .next (aluLoc .add (.reg .l) s)
/-- ADD A,(HL): byte 0x86 (R221). -/
def execAddAAtHL (s : State) : Result := .next (aluLoc .add .atHL s)
/-- ADD A,A: byte 0x87 (R221). -/
def execAddAA (s : State) : Result := .next (aluLoc .add (.reg .a) s)
/-- ADC A,B: byte 0x88 (R222). -/
def execAdcAB (s : State) : Result := .next (aluLoc .adc (.reg .b) s)
/-- ADC A,C: byte 0x89 (R222). -/
def execAdcAC (s : State) : Result := .next (aluLoc .adc (.reg .c) s)
/-- ADC A,D: byte 0x8A (R222). -/
def execAdcAD (s : State) : Result := .next (aluLoc .adc (.reg .d) s)
/-- ADC A,E: byte 0x8B (R222). -/
def execAdcAE (s : State) : Result := .next (aluLoc .adc (.reg .e) s)
/-- ADC A,H: byte 0x8C (R222). -/
def execAdcAH (s : State) : Result := .next (aluLoc .adc (.reg .h) s)
/-- ADC A,L: byte 0x8D (R222). -/
def execAdcAL (s : State) : Result := .next (aluLoc .adc (.reg .l) s)
/-- ADC A,(HL): byte 0x8E (R222). -/
def execAdcAAtHL (s : State) : Result := .next (aluLoc .adc .atHL s)
/-- ADC A,A: byte 0x8F (R222). -/
def execAdcAA (s : State) : Result := .next (aluLoc .adc (.reg .a) s)
/-- SUB B: byte 0x90 (R223). -/
def execSubB (s : State) : Result := .next (aluLoc .sub (.reg .b) s)
/-- SUB C: byte 0x91 (R223). -/
def execSubC (s : State) : Result := .next (aluLoc .sub (.reg .c) s)
/-- SUB D: byte 0x92 (R223). -/
def execSubD (s : State) : Result := .next (aluLoc .sub (.reg .d) s)
/-- SUB E: byte 0x93 (R223). -/
def execSubE (s : State) : Result := .next (aluLoc .sub (.reg .e) s)
/-- SUB H: byte 0x94 (R223). -/
def execSubH (s : State) : Result := .next (aluLoc .sub (.reg .h) s)
/-- SUB L: byte 0x95 (R223). -/
def execSubL (s : State) : Result := .next (aluLoc .sub (.reg .l) s)
/-- SUB (HL): byte 0x96 (R223). -/
def execSubAtHL (s : State) : Result := .next (aluLoc .sub .atHL s)
/-- SUB A: byte 0x97 (R223). -/
def execSubA (s : State) : Result := .next (aluLoc .sub (.reg .a) s)
/-- SBC A,B: byte 0x98 (R224). -/
def execSbcAB (s : State) : Result := .next (aluLoc .sbc (.reg .b) s)
/-- SBC A,C: byte 0x99 (R224). -/
def execSbcAC (s : State) : Result := .next (aluLoc .sbc (.reg .c) s)
/-- SBC A,D: byte 0x9A (R224). -/
def execSbcAD (s : State) : Result := .next (aluLoc .sbc (.reg .d) s)
/-- SBC A,E: byte 0x9B (R224). -/
def execSbcAE (s : State) : Result := .next (aluLoc .sbc (.reg .e) s)
/-- SBC A,H: byte 0x9C (R224). -/
def execSbcAH (s : State) : Result := .next (aluLoc .sbc (.reg .h) s)
/-- SBC A,L: byte 0x9D (R224). -/
def execSbcAL (s : State) : Result := .next (aluLoc .sbc (.reg .l) s)
/-- SBC A,(HL): byte 0x9E (R224). -/
def execSbcAAtHL (s : State) : Result := .next (aluLoc .sbc .atHL s)
/-- SBC A,A: byte 0x9F (R224). -/
def execSbcAA (s : State) : Result := .next (aluLoc .sbc (.reg .a) s)
/-- AND B: byte 0xA0 (R225). -/
def execAndB (s : State) : Result := .next (aluLoc .and (.reg .b) s)
/-- AND C: byte 0xA1 (R225). -/
def execAndC (s : State) : Result := .next (aluLoc .and (.reg .c) s)
/-- AND D: byte 0xA2 (R225). -/
def execAndD (s : State) : Result := .next (aluLoc .and (.reg .d) s)
/-- AND E: byte 0xA3 (R225). -/
def execAndE (s : State) : Result := .next (aluLoc .and (.reg .e) s)
/-- AND H: byte 0xA4 (R225). -/
def execAndH (s : State) : Result := .next (aluLoc .and (.reg .h) s)
/-- AND L: byte 0xA5 (R225). -/
def execAndL (s : State) : Result := .next (aluLoc .and (.reg .l) s)
/-- AND (HL): byte 0xA6 (R225). -/
def execAndAtHL (s : State) : Result := .next (aluLoc .and .atHL s)
/-- AND A: byte 0xA7 (R225). -/
def execAndA (s : State) : Result := .next (aluLoc .and (.reg .a) s)
/-- XOR B: byte 0xA8 (R226). -/
def execXorB (s : State) : Result := .next (aluLoc .xor (.reg .b) s)
/-- XOR C: byte 0xA9 (R226). -/
def execXorC (s : State) : Result := .next (aluLoc .xor (.reg .c) s)
/-- XOR D: byte 0xAA (R226). -/
def execXorD (s : State) : Result := .next (aluLoc .xor (.reg .d) s)
/-- XOR E: byte 0xAB (R226). -/
def execXorE (s : State) : Result := .next (aluLoc .xor (.reg .e) s)
/-- XOR H: byte 0xAC (R226). -/
def execXorH (s : State) : Result := .next (aluLoc .xor (.reg .h) s)
/-- XOR L: byte 0xAD (R226). -/
def execXorL (s : State) : Result := .next (aluLoc .xor (.reg .l) s)
/-- XOR (HL): byte 0xAE (R226). -/
def execXorAtHL (s : State) : Result := .next (aluLoc .xor .atHL s)
/-- XOR A: byte 0xAF (R226). -/
def execXorA (s : State) : Result := .next (aluLoc .xor (.reg .a) s)
/-- OR B: byte 0xB0 (R227). -/
def execOrB (s : State) : Result := .next (aluLoc .or (.reg .b) s)
/-- OR C: byte 0xB1 (R227). -/
def execOrC (s : State) : Result := .next (aluLoc .or (.reg .c) s)
/-- OR D: byte 0xB2 (R227). -/
def execOrD (s : State) : Result := .next (aluLoc .or (.reg .d) s)
/-- OR E: byte 0xB3 (R227). -/
def execOrE (s : State) : Result := .next (aluLoc .or (.reg .e) s)
/-- OR H: byte 0xB4 (R227). -/
def execOrH (s : State) : Result := .next (aluLoc .or (.reg .h) s)
/-- OR L: byte 0xB5 (R227). -/
def execOrL (s : State) : Result := .next (aluLoc .or (.reg .l) s)
/-- OR (HL): byte 0xB6 (R227). -/
def execOrAtHL (s : State) : Result := .next (aluLoc .or .atHL s)
/-- OR A: byte 0xB7 (R227). -/
def execOrA (s : State) : Result := .next (aluLoc .or (.reg .a) s)
/-- CP B: byte 0xB8 (R228). -/
def execCpB (s : State) : Result := .next (aluLoc .cp (.reg .b) s)
/-- CP C: byte 0xB9 (R228). -/
def execCpC (s : State) : Result := .next (aluLoc .cp (.reg .c) s)
/-- CP D: byte 0xBA (R228). -/
def execCpD (s : State) : Result := .next (aluLoc .cp (.reg .d) s)
/-- CP E: byte 0xBB (R228). -/
def execCpE (s : State) : Result := .next (aluLoc .cp (.reg .e) s)
/-- CP H: byte 0xBC (R228). -/
def execCpH (s : State) : Result := .next (aluLoc .cp (.reg .h) s)
/-- CP L: byte 0xBD (R228). -/
def execCpL (s : State) : Result := .next (aluLoc .cp (.reg .l) s)
/-- CP (HL): byte 0xBE (R228). -/
def execCpAtHL (s : State) : Result := .next (aluLoc .cp .atHL s)
/-- CP A: byte 0xBF (R228). -/
def execCpA (s : State) : Result := .next (aluLoc .cp (.reg .a) s)
/-- ADD A,n: byte 0xC6 (R221). -/
def execAddAN (n : Byte) (s : State) : Result := .next (aluImm .add n s)
/-- ADC A,n: byte 0xCE (R222). -/
def execAdcAN (n : Byte) (s : State) : Result := .next (aluImm .adc n s)
/-- SUB n: byte 0xD6 (R223). -/
def execSubN (n : Byte) (s : State) : Result := .next (aluImm .sub n s)
/-- SBC A,n: byte 0xDE (R224). -/
def execSbcAN (n : Byte) (s : State) : Result := .next (aluImm .sbc n s)
/-- AND n: byte 0xE6 (R225). -/
def execAndN (n : Byte) (s : State) : Result := .next (aluImm .and n s)
/-- XOR n: byte 0xEE (R226). -/
def execXorN (n : Byte) (s : State) : Result := .next (aluImm .xor n s)
/-- OR n: byte 0xF6 (R227). -/
def execOrN (n : Byte) (s : State) : Result := .next (aluImm .or n s)
/-- CP n: byte 0xFE (R228). -/
def execCpN (n : Byte) (s : State) : Result := .next (aluImm .cp n s)

end Sys2Proof.Machine
end

