-- ==== Sys2Proof/Machine/Control.lean ====
section
/-! DEFINITION. Jumps, calls and returns (spec/45_control.md). PC already stands after the instruction's last byte. -/

namespace Sys2Proof.Machine

/-- JR e (R330). -/
def jr (e : Byte) (s : State) : State := tick 4 (s.setPc (s.cpu.pc + sext16 e))

/-- JR cc,e (R331). -/
def jrCond (cc : Cond) (e : Byte) (s : State) : State := if condHolds cc s then jr e s else s

/-- JP nn (R332). -/
def jp (nn : Word) (s : State) : State := tick 4 (s.setPc nn)

/-- JP cc,nn (R333). -/
def jpCond (cc : Cond) (nn : Word) (s : State) : State := if condHolds cc s then jp nn s else s

/-- JP HL: no internal cycle (R334). -/
def jpHL (s : State) : State := s.setPc s.hl

/-- CALL nn: the internal cycle comes before the push (R335). -/
def call (nn : Word) (s : State) : State :=
  let s1 := tick 4 s
  (push16 s1.cpu.pc s1).setPc nn

/-- CALL cc,nn (R336). -/
def callCond (cc : Cond) (nn : Word) (s : State) : State := if condHolds cc s then call nn s else s

/-- RET (R337). -/
def ret (s : State) : State :=
  let (v, s1) := pop16 s
  tick 4 (s1.setPc v)

/-- RET cc: the first internal cycle is spent in both cases (R338). -/
def retCond (cc : Cond) (s : State) : State :=
  let s1 := tick 4 s
  if condHolds cc s1 then ret s1 else s1

/-- RETI (R339). -/
def reti (s : State) : State := returnFromInterrupt s

/-- RST t with t = 8y (R340). -/
def rst (y : Fin 8) (s : State) : State := call (BitVec.ofNat 16 (8 * y.val)) s

/-- JR e: byte 0x18 (R330). -/
def execJr (e : Byte) (s : State) : Result := .next (jr e s)
/-- JR NZ,e: byte 0x20 (R331). -/
def execJrNZ (e : Byte) (s : State) : Result := .next (jrCond .nz e s)
/-- JR Z,e: byte 0x28 (R331). -/
def execJrZ (e : Byte) (s : State) : Result := .next (jrCond .z e s)
/-- JR NC,e: byte 0x30 (R331). -/
def execJrNC (e : Byte) (s : State) : Result := .next (jrCond .nc e s)
/-- JR C,e: byte 0x38 (R331). -/
def execJrC (e : Byte) (s : State) : Result := .next (jrCond .c e s)
/-- RET NZ: byte 0xC0 (R338). -/
def execRetNZ (s : State) : Result := .next (retCond .nz s)
/-- JP NZ,nn: byte 0xC2 (R333). -/
def execJpNZ (nn : Word) (s : State) : Result := .next (jpCond .nz nn s)
/-- JP nn: byte 0xC3 (R332). -/
def execJp (nn : Word) (s : State) : Result := .next (jp nn s)
/-- CALL NZ,nn: byte 0xC4 (R336). -/
def execCallNZ (nn : Word) (s : State) : Result := .next (callCond .nz nn s)
/-- RST 0x00: byte 0xC7 (R340). -/
def execRst00 (s : State) : Result := .next (rst 0 s)
/-- RET Z: byte 0xC8 (R338). -/
def execRetZ (s : State) : Result := .next (retCond .z s)
/-- RET: byte 0xC9 (R337). -/
def execRet (s : State) : Result := .next (ret s)
/-- JP Z,nn: byte 0xCA (R333). -/
def execJpZ (nn : Word) (s : State) : Result := .next (jpCond .z nn s)
/-- CALL Z,nn: byte 0xCC (R336). -/
def execCallZ (nn : Word) (s : State) : Result := .next (callCond .z nn s)
/-- CALL nn: byte 0xCD (R335). -/
def execCall (nn : Word) (s : State) : Result := .next (call nn s)
/-- RST 0x08: byte 0xCF (R340). -/
def execRst08 (s : State) : Result := .next (rst 1 s)
/-- RET NC: byte 0xD0 (R338). -/
def execRetNC (s : State) : Result := .next (retCond .nc s)
/-- JP NC,nn: byte 0xD2 (R333). -/
def execJpNC (nn : Word) (s : State) : Result := .next (jpCond .nc nn s)
/-- CALL NC,nn: byte 0xD4 (R336). -/
def execCallNC (nn : Word) (s : State) : Result := .next (callCond .nc nn s)
/-- RST 0x10: byte 0xD7 (R340). -/
def execRst10 (s : State) : Result := .next (rst 2 s)
/-- RET C: byte 0xD8 (R338). -/
def execRetC (s : State) : Result := .next (retCond .c s)
/-- RETI: byte 0xD9 (R339). -/
def execReti (s : State) : Result := .next (reti s)
/-- JP C,nn: byte 0xDA (R333). -/
def execJpC (nn : Word) (s : State) : Result := .next (jpCond .c nn s)
/-- CALL C,nn: byte 0xDC (R336). -/
def execCallC (nn : Word) (s : State) : Result := .next (callCond .c nn s)
/-- RST 0x18: byte 0xDF (R340). -/
def execRst18 (s : State) : Result := .next (rst 3 s)
/-- RST 0x20: byte 0xE7 (R340). -/
def execRst20 (s : State) : Result := .next (rst 4 s)
/-- JP HL: byte 0xE9 (R334). -/
def execJpHL (s : State) : Result := .next (jpHL s)
/-- RST 0x28: byte 0xEF (R340). -/
def execRst28 (s : State) : Result := .next (rst 5 s)
/-- RST 0x30: byte 0xF7 (R340). -/
def execRst30 (s : State) : Result := .next (rst 6 s)
/-- RST 0x38: byte 0xFF (R340). -/
def execRst38 (s : State) : Result := .next (rst 7 s)

end Sys2Proof.Machine
end

