-- ==== Sys2Proof/Machine/Load16.lean ====
section
/-! DEFINITION. 16-bit loads and the stack instructions (spec/41_load16_stack.md). -/

namespace Sys2Proof.Machine

/-- LD rr,nn (R200). -/
def ldPairImm (p : Pair) (nn : Word) (s : State) : State := s.setPair p nn

/-- LD (nn),SP (R201). -/
def ldAtNNSP (nn : Word) (s : State) : State := memWrite2 nn s.cpu.sp s

/-- LD SP,HL (R202). -/
def ldSPHL (s : State) : State := tick 4 (s.setSp s.hl)

/-- LD HL,SP+e (R203). -/
def ldHLSPPlusE (e : Byte) (s : State) : State :=
  let (v, f) := spPlusFlags s.cpu.sp e
  tick 4 ((s.setF f).setPair .hl v)

/-- PUSH rr: the internal cycle comes before the writes (R206). -/
def push (p : StackPair) (s : State) : State :=
  let s1 := tick 4 s
  push16 (readStackPair p s1) s1

/-- POP rr (R207). -/
def pop (p : StackPair) (s : State) : State :=
  let (v, s1) := pop16 s
  writeStackPair p v s1

/-- LD BC,nn: byte 0x01 (R200). -/
def execLdBCNN (nn : Word) (s : State) : Result := .next (ldPairImm .bc nn s)
/-- LD (nn),SP: byte 0x08 (R201). -/
def execLdAtNNSP (nn : Word) (s : State) : Result := .next (ldAtNNSP nn s)
/-- LD DE,nn: byte 0x11 (R200). -/
def execLdDENN (nn : Word) (s : State) : Result := .next (ldPairImm .de nn s)
/-- LD HL,nn: byte 0x21 (R200). -/
def execLdHLNN (nn : Word) (s : State) : Result := .next (ldPairImm .hl nn s)
/-- LD SP,nn: byte 0x31 (R200). -/
def execLdSPNN (nn : Word) (s : State) : Result := .next (ldPairImm .sp nn s)
/-- POP BC: byte 0xC1 (R207). -/
def execPopBC (s : State) : Result := .next (pop .bc s)
/-- PUSH BC: byte 0xC5 (R206). -/
def execPushBC (s : State) : Result := .next (push .bc s)
/-- POP DE: byte 0xD1 (R207). -/
def execPopDE (s : State) : Result := .next (pop .de s)
/-- PUSH DE: byte 0xD5 (R206). -/
def execPushDE (s : State) : Result := .next (push .de s)
/-- POP HL: byte 0xE1 (R207). -/
def execPopHL (s : State) : Result := .next (pop .hl s)
/-- PUSH HL: byte 0xE5 (R206). -/
def execPushHL (s : State) : Result := .next (push .hl s)
/-- POP AF: byte 0xF1 (R207). -/
def execPopAF (s : State) : Result := .next (pop .af s)
/-- PUSH AF: byte 0xF5 (R206). -/
def execPushAF (s : State) : Result := .next (push .af s)
/-- LD HL,SP+e: byte 0xF8 (R203). -/
def execLdHLSPPlusE (e : Byte) (s : State) : Result := .next (ldHLSPPlusE e s)
/-- LD SP,HL: byte 0xF9 (R202). -/
def execLdSPHL (s : State) : Result := .next (ldSPHL s)

end Sys2Proof.Machine
end

