-- ==== Sys2Proof/Machine/Load8.lean ====
section
/-! DEFINITION. 8-bit loads and stores (spec/40_load8.md): the shared operations, then one meaning per instruction. Each starts
in the state that the instruction's fetches leave. -/

namespace Sys2Proof.Machine

/-- LD r,r′ (R160). -/
def ldRegReg (dst src : Reg8) (s : State) : State := s.setReg8 dst (s.reg8 src)

/-- LD r,(HL): the address is HL before the write (R161). -/
def ldRegAtHL (dst : Reg8) (s : State) : State :=
  let (v, s1) := readLoc8 .atHL s
  s1.setReg8 dst v

/-- LD (HL),r (R162). -/
def ldAtHLReg (src : Reg8) (s : State) : State := writeLoc8 .atHL (s.reg8 src) s

/-- LD r,n and LD (HL),n (R163, R164). -/
def ldLocImm (x : Loc8) (n : Byte) (s : State) : State := writeLoc8 x n s

/-- LD (BC),A; LD (DE),A; LD (HL±),A; LD (C),A: store, then update HL (R165 to R168, R175). -/
def ldAtA (x : AddrReg) (s : State) : State := afterAddr x (memWrite (addrOf x s) s.cpu.a s)

/-- LD A,(BC); LD A,(DE); LD A,(HL±); LD A,(C): load, then update HL (R169 to R172, R176). -/
def ldAAt (x : AddrReg) (s : State) : State :=
  let (v, s1) := memRead (addrOf x s) s
  afterAddr x (s1.setReg8 .a v)

/-- Store A at an address from the instruction: LDH (n),A and LD (nn),A (R173, R177). -/
def ldAtWordA (addr : Word) (s : State) : State := memWrite addr s.cpu.a s

/-- Load A from an address from the instruction: LDH A,(n) and LD A,(nn) (R174, R178). -/
def ldAAtWord (addr : Word) (s : State) : State :=
  let (v, s1) := memRead addr s
  s1.setReg8 .a v

/-- LD (BC),A: byte 0x02 (R165). -/
def execLdAtBCA (s : State) : Result := .next (ldAtA .bc s)
/-- LD B,n: byte 0x06 (R163). -/
def execLdBN (n : Byte) (s : State) : Result := .next (ldLocImm (.reg .b) n s)
/-- LD A,(BC): byte 0x0A (R169). -/
def execLdAAtBC (s : State) : Result := .next (ldAAt .bc s)
/-- LD C,n: byte 0x0E (R163). -/
def execLdCN (n : Byte) (s : State) : Result := .next (ldLocImm (.reg .c) n s)
/-- LD (DE),A: byte 0x12 (R166). -/
def execLdAtDEA (s : State) : Result := .next (ldAtA .de s)
/-- LD D,n: byte 0x16 (R163). -/
def execLdDN (n : Byte) (s : State) : Result := .next (ldLocImm (.reg .d) n s)
/-- LD A,(DE): byte 0x1A (R170). -/
def execLdAAtDE (s : State) : Result := .next (ldAAt .de s)
/-- LD E,n: byte 0x1E (R163). -/
def execLdEN (n : Byte) (s : State) : Result := .next (ldLocImm (.reg .e) n s)
/-- LD (HL+),A: byte 0x22 (R167). -/
def execLdAtHLIncA (s : State) : Result := .next (ldAtA .hlInc s)
/-- LD H,n: byte 0x26 (R163). -/
def execLdHN (n : Byte) (s : State) : Result := .next (ldLocImm (.reg .h) n s)
/-- LD A,(HL+): byte 0x2A (R171). -/
def execLdAAtHLInc (s : State) : Result := .next (ldAAt .hlInc s)
/-- LD L,n: byte 0x2E (R163). -/
def execLdLN (n : Byte) (s : State) : Result := .next (ldLocImm (.reg .l) n s)
/-- LD (HL-),A: byte 0x32 (R168). -/
def execLdAtHLDecA (s : State) : Result := .next (ldAtA .hlDec s)
/-- LD (HL),n: byte 0x36 (R164). -/
def execLdAtHLN (n : Byte) (s : State) : Result := .next (ldLocImm .atHL n s)
/-- LD A,(HL-): byte 0x3A (R172). -/
def execLdAAtHLDec (s : State) : Result := .next (ldAAt .hlDec s)
/-- LD A,n: byte 0x3E (R163). -/
def execLdAN (n : Byte) (s : State) : Result := .next (ldLocImm (.reg .a) n s)
/-- LD B,B: byte 0x40 (R160). -/
def execLdBB (s : State) : Result := .next (ldRegReg .b .b s)
/-- LD B,C: byte 0x41 (R160). -/
def execLdBC (s : State) : Result := .next (ldRegReg .b .c s)
/-- LD B,D: byte 0x42 (R160). -/
def execLdBD (s : State) : Result := .next (ldRegReg .b .d s)
/-- LD B,E: byte 0x43 (R160). -/
def execLdBE (s : State) : Result := .next (ldRegReg .b .e s)
/-- LD B,H: byte 0x44 (R160). -/
def execLdBH (s : State) : Result := .next (ldRegReg .b .h s)
/-- LD B,L: byte 0x45 (R160). -/
def execLdBL (s : State) : Result := .next (ldRegReg .b .l s)
/-- LD B,(HL): byte 0x46 (R161). -/
def execLdBAtHL (s : State) : Result := .next (ldRegAtHL .b s)
/-- LD B,A: byte 0x47 (R160). -/
def execLdBA (s : State) : Result := .next (ldRegReg .b .a s)
/-- LD C,B: byte 0x48 (R160). -/
def execLdCB (s : State) : Result := .next (ldRegReg .c .b s)
/-- LD C,C: byte 0x49 (R160). -/
def execLdCC (s : State) : Result := .next (ldRegReg .c .c s)
/-- LD C,D: byte 0x4A (R160). -/
def execLdCD (s : State) : Result := .next (ldRegReg .c .d s)
/-- LD C,E: byte 0x4B (R160). -/
def execLdCE (s : State) : Result := .next (ldRegReg .c .e s)
/-- LD C,H: byte 0x4C (R160). -/
def execLdCH (s : State) : Result := .next (ldRegReg .c .h s)
/-- LD C,L: byte 0x4D (R160). -/
def execLdCL (s : State) : Result := .next (ldRegReg .c .l s)
/-- LD C,(HL): byte 0x4E (R161). -/
def execLdCAtHL (s : State) : Result := .next (ldRegAtHL .c s)
/-- LD C,A: byte 0x4F (R160). -/
def execLdCA (s : State) : Result := .next (ldRegReg .c .a s)
/-- LD D,B: byte 0x50 (R160). -/
def execLdDB (s : State) : Result := .next (ldRegReg .d .b s)
/-- LD D,C: byte 0x51 (R160). -/
def execLdDC (s : State) : Result := .next (ldRegReg .d .c s)
/-- LD D,D: byte 0x52 (R160). -/
def execLdDD (s : State) : Result := .next (ldRegReg .d .d s)
/-- LD D,E: byte 0x53 (R160). -/
def execLdDE (s : State) : Result := .next (ldRegReg .d .e s)
/-- LD D,H: byte 0x54 (R160). -/
def execLdDH (s : State) : Result := .next (ldRegReg .d .h s)
/-- LD D,L: byte 0x55 (R160). -/
def execLdDL (s : State) : Result := .next (ldRegReg .d .l s)
/-- LD D,(HL): byte 0x56 (R161). -/
def execLdDAtHL (s : State) : Result := .next (ldRegAtHL .d s)
/-- LD D,A: byte 0x57 (R160). -/
def execLdDA (s : State) : Result := .next (ldRegReg .d .a s)
/-- LD E,B: byte 0x58 (R160). -/
def execLdEB (s : State) : Result := .next (ldRegReg .e .b s)
/-- LD E,C: byte 0x59 (R160). -/
def execLdEC (s : State) : Result := .next (ldRegReg .e .c s)
/-- LD E,D: byte 0x5A (R160). -/
def execLdED (s : State) : Result := .next (ldRegReg .e .d s)
/-- LD E,E: byte 0x5B (R160). -/
def execLdEE (s : State) : Result := .next (ldRegReg .e .e s)
/-- LD E,H: byte 0x5C (R160). -/
def execLdEH (s : State) : Result := .next (ldRegReg .e .h s)
/-- LD E,L: byte 0x5D (R160). -/
def execLdEL (s : State) : Result := .next (ldRegReg .e .l s)
/-- LD E,(HL): byte 0x5E (R161). -/
def execLdEAtHL (s : State) : Result := .next (ldRegAtHL .e s)
/-- LD E,A: byte 0x5F (R160). -/
def execLdEA (s : State) : Result := .next (ldRegReg .e .a s)
/-- LD H,B: byte 0x60 (R160). -/
def execLdHB (s : State) : Result := .next (ldRegReg .h .b s)
/-- LD H,C: byte 0x61 (R160). -/
def execLdHC (s : State) : Result := .next (ldRegReg .h .c s)
/-- LD H,D: byte 0x62 (R160). -/
def execLdHD (s : State) : Result := .next (ldRegReg .h .d s)
/-- LD H,E: byte 0x63 (R160). -/
def execLdHE (s : State) : Result := .next (ldRegReg .h .e s)
/-- LD H,H: byte 0x64 (R160). -/
def execLdHH (s : State) : Result := .next (ldRegReg .h .h s)
/-- LD H,L: byte 0x65 (R160). -/
def execLdHL (s : State) : Result := .next (ldRegReg .h .l s)
/-- LD H,(HL): byte 0x66 (R161). -/
def execLdHAtHL (s : State) : Result := .next (ldRegAtHL .h s)
/-- LD H,A: byte 0x67 (R160). -/
def execLdHA (s : State) : Result := .next (ldRegReg .h .a s)
/-- LD L,B: byte 0x68 (R160). -/
def execLdLB (s : State) : Result := .next (ldRegReg .l .b s)
/-- LD L,C: byte 0x69 (R160). -/
def execLdLC (s : State) : Result := .next (ldRegReg .l .c s)
/-- LD L,D: byte 0x6A (R160). -/
def execLdLD (s : State) : Result := .next (ldRegReg .l .d s)
/-- LD L,E: byte 0x6B (R160). -/
def execLdLE (s : State) : Result := .next (ldRegReg .l .e s)
/-- LD L,H: byte 0x6C (R160). -/
def execLdLH (s : State) : Result := .next (ldRegReg .l .h s)
/-- LD L,L: byte 0x6D (R160). -/
def execLdLL (s : State) : Result := .next (ldRegReg .l .l s)
/-- LD L,(HL): byte 0x6E (R161). -/
def execLdLAtHL (s : State) : Result := .next (ldRegAtHL .l s)
/-- LD L,A: byte 0x6F (R160). -/
def execLdLA (s : State) : Result := .next (ldRegReg .l .a s)
/-- LD (HL),B: byte 0x70 (R162). -/
def execLdAtHLB (s : State) : Result := .next (ldAtHLReg .b s)
/-- LD (HL),C: byte 0x71 (R162). -/
def execLdAtHLC (s : State) : Result := .next (ldAtHLReg .c s)
/-- LD (HL),D: byte 0x72 (R162). -/
def execLdAtHLD (s : State) : Result := .next (ldAtHLReg .d s)
/-- LD (HL),E: byte 0x73 (R162). -/
def execLdAtHLE (s : State) : Result := .next (ldAtHLReg .e s)
/-- LD (HL),H: byte 0x74 (R162). -/
def execLdAtHLH (s : State) : Result := .next (ldAtHLReg .h s)
/-- LD (HL),L: byte 0x75 (R162). -/
def execLdAtHLL (s : State) : Result := .next (ldAtHLReg .l s)
/-- LD (HL),A: byte 0x77 (R162). -/
def execLdAtHLA (s : State) : Result := .next (ldAtHLReg .a s)
/-- LD A,B: byte 0x78 (R160). -/
def execLdAB (s : State) : Result := .next (ldRegReg .a .b s)
/-- LD A,C: byte 0x79 (R160). -/
def execLdAC (s : State) : Result := .next (ldRegReg .a .c s)
/-- LD A,D: byte 0x7A (R160). -/
def execLdAD (s : State) : Result := .next (ldRegReg .a .d s)
/-- LD A,E: byte 0x7B (R160). -/
def execLdAE (s : State) : Result := .next (ldRegReg .a .e s)
/-- LD A,H: byte 0x7C (R160). -/
def execLdAH (s : State) : Result := .next (ldRegReg .a .h s)
/-- LD A,L: byte 0x7D (R160). -/
def execLdAL (s : State) : Result := .next (ldRegReg .a .l s)
/-- LD A,(HL): byte 0x7E (R161). -/
def execLdAAtHL (s : State) : Result := .next (ldRegAtHL .a s)
/-- LD A,A: byte 0x7F (R160). -/
def execLdAA (s : State) : Result := .next (ldRegReg .a .a s)
/-- LDH (n),A: byte 0xE0 (R173). -/
def execLdhAtNA (n : Byte) (s : State) : Result := .next (ldAtWordA (highPage n) s)
/-- LD (C),A: byte 0xE2 (R175). -/
def execLdAtHighCA (s : State) : Result := .next (ldAtA .highC s)
/-- LD (nn),A: byte 0xEA (R177). -/
def execLdAtNNA (nn : Word) (s : State) : Result := .next (ldAtWordA nn s)
/-- LDH A,(n): byte 0xF0 (R174). -/
def execLdhAAtN (n : Byte) (s : State) : Result := .next (ldAAtWord (highPage n) s)
/-- LD A,(C): byte 0xF2 (R176). -/
def execLdAAtHighC (s : State) : Result := .next (ldAAt .highC s)
/-- LD A,(nn): byte 0xFA (R178). -/
def execLdAAtNN (nn : Word) (s : State) : Result := .next (ldAAtWord nn s)

end Sys2Proof.Machine
end

