-- ==== Sys2Proof/Machine/Rotate.lean ====
section
/-! DEFINITION. Rotates, shifts and bit operations (spec/44_rotate_shift_bit.md). -/

namespace Sys2Proof.Machine

/-- RLCA, RRCA, RLA, RRA: Z is always 0 (R280 to R283). -/
def rotA (op : RotOp) (s : State) : State :=
  let (r, c) := rotResult op s.cpu.a s.flagC
  (s.setReg8 .a r).setFlags false false false c

/-- A rotate or shift of the 0xCB block: Z from the result, N and H clear (R284 to R292). -/
def rotLoc (op : RotOp) (x : Loc8) (s : State) : State :=
  let (v, s1) := readLoc8 x s
  let (r, c) := rotResult op v s1.flagC
  writeLoc8 x r (s1.setFlags (r = 0) false false c)

/-- BIT b: nothing is written back, C unaffected (R293). -/
def bitLoc (b : Fin 8) (x : Loc8) (s : State) : State :=
  let (v, s1) := readLoc8 x s
  s1.setFlags (!v.getLsbD b.val) false true s1.flagC

/-- RES b: no flag changes; (HL) is written back whatever the bit was (R294). -/
def resLoc (b : Fin 8) (x : Loc8) (s : State) : State :=
  let (v, s1) := readLoc8 x s
  writeLoc8 x (clearBit b v) s1

/-- SET b: no flag changes; (HL) is written back whatever the bit was (R295). -/
def setLoc (b : Fin 8) (x : Loc8) (s : State) : State :=
  let (v, s1) := readLoc8 x s
  writeLoc8 x (setBit b v) s1

/-- RLCA: byte 0x07 (R280). -/
def execRlca (s : State) : Result := .next (rotA .rlc s)
/-- RRCA: byte 0x0F (R281). -/
def execRrca (s : State) : Result := .next (rotA .rrc s)
/-- RLA: byte 0x17 (R282). -/
def execRla (s : State) : Result := .next (rotA .rl s)
/-- RRA: byte 0x1F (R283). -/
def execRra (s : State) : Result := .next (rotA .rr s)
/-- RLC B: bytes 0xCB 0x00 (R285). -/
def execRlcB (s : State) : Result := .next (rotLoc .rlc (.reg .b) s)
/-- RLC C: bytes 0xCB 0x01 (R285). -/
def execRlcC (s : State) : Result := .next (rotLoc .rlc (.reg .c) s)
/-- RLC D: bytes 0xCB 0x02 (R285). -/
def execRlcD (s : State) : Result := .next (rotLoc .rlc (.reg .d) s)
/-- RLC E: bytes 0xCB 0x03 (R285). -/
def execRlcE (s : State) : Result := .next (rotLoc .rlc (.reg .e) s)
/-- RLC H: bytes 0xCB 0x04 (R285). -/
def execRlcH (s : State) : Result := .next (rotLoc .rlc (.reg .h) s)
/-- RLC L: bytes 0xCB 0x05 (R285). -/
def execRlcL (s : State) : Result := .next (rotLoc .rlc (.reg .l) s)
/-- RLC (HL): bytes 0xCB 0x06 (R285). -/
def execRlcAtHL (s : State) : Result := .next (rotLoc .rlc .atHL s)
/-- RLC A: bytes 0xCB 0x07 (R285). -/
def execRlcA (s : State) : Result := .next (rotLoc .rlc (.reg .a) s)
/-- RRC B: bytes 0xCB 0x08 (R286). -/
def execRrcB (s : State) : Result := .next (rotLoc .rrc (.reg .b) s)
/-- RRC C: bytes 0xCB 0x09 (R286). -/
def execRrcC (s : State) : Result := .next (rotLoc .rrc (.reg .c) s)
/-- RRC D: bytes 0xCB 0x0A (R286). -/
def execRrcD (s : State) : Result := .next (rotLoc .rrc (.reg .d) s)
/-- RRC E: bytes 0xCB 0x0B (R286). -/
def execRrcE (s : State) : Result := .next (rotLoc .rrc (.reg .e) s)
/-- RRC H: bytes 0xCB 0x0C (R286). -/
def execRrcH (s : State) : Result := .next (rotLoc .rrc (.reg .h) s)
/-- RRC L: bytes 0xCB 0x0D (R286). -/
def execRrcL (s : State) : Result := .next (rotLoc .rrc (.reg .l) s)
/-- RRC (HL): bytes 0xCB 0x0E (R286). -/
def execRrcAtHL (s : State) : Result := .next (rotLoc .rrc .atHL s)
/-- RRC A: bytes 0xCB 0x0F (R286). -/
def execRrcA (s : State) : Result := .next (rotLoc .rrc (.reg .a) s)
/-- RL B: bytes 0xCB 0x10 (R287). -/
def execRlB (s : State) : Result := .next (rotLoc .rl (.reg .b) s)
/-- RL C: bytes 0xCB 0x11 (R287). -/
def execRlC (s : State) : Result := .next (rotLoc .rl (.reg .c) s)
/-- RL D: bytes 0xCB 0x12 (R287). -/
def execRlD (s : State) : Result := .next (rotLoc .rl (.reg .d) s)
/-- RL E: bytes 0xCB 0x13 (R287). -/
def execRlE (s : State) : Result := .next (rotLoc .rl (.reg .e) s)
/-- RL H: bytes 0xCB 0x14 (R287). -/
def execRlH (s : State) : Result := .next (rotLoc .rl (.reg .h) s)
/-- RL L: bytes 0xCB 0x15 (R287). -/
def execRlL (s : State) : Result := .next (rotLoc .rl (.reg .l) s)
/-- RL (HL): bytes 0xCB 0x16 (R287). -/
def execRlAtHL (s : State) : Result := .next (rotLoc .rl .atHL s)
/-- RL A: bytes 0xCB 0x17 (R287). -/
def execRlA (s : State) : Result := .next (rotLoc .rl (.reg .a) s)
/-- RR B: bytes 0xCB 0x18 (R288). -/
def execRrB (s : State) : Result := .next (rotLoc .rr (.reg .b) s)
/-- RR C: bytes 0xCB 0x19 (R288). -/
def execRrC (s : State) : Result := .next (rotLoc .rr (.reg .c) s)
/-- RR D: bytes 0xCB 0x1A (R288). -/
def execRrD (s : State) : Result := .next (rotLoc .rr (.reg .d) s)
/-- RR E: bytes 0xCB 0x1B (R288). -/
def execRrE (s : State) : Result := .next (rotLoc .rr (.reg .e) s)
/-- RR H: bytes 0xCB 0x1C (R288). -/
def execRrH (s : State) : Result := .next (rotLoc .rr (.reg .h) s)
/-- RR L: bytes 0xCB 0x1D (R288). -/
def execRrL (s : State) : Result := .next (rotLoc .rr (.reg .l) s)
/-- RR (HL): bytes 0xCB 0x1E (R288). -/
def execRrAtHL (s : State) : Result := .next (rotLoc .rr .atHL s)
/-- RR A: bytes 0xCB 0x1F (R288). -/
def execRrA (s : State) : Result := .next (rotLoc .rr (.reg .a) s)
/-- SLA B: bytes 0xCB 0x20 (R289). -/
def execSlaB (s : State) : Result := .next (rotLoc .sla (.reg .b) s)
/-- SLA C: bytes 0xCB 0x21 (R289). -/
def execSlaC (s : State) : Result := .next (rotLoc .sla (.reg .c) s)
/-- SLA D: bytes 0xCB 0x22 (R289). -/
def execSlaD (s : State) : Result := .next (rotLoc .sla (.reg .d) s)
/-- SLA E: bytes 0xCB 0x23 (R289). -/
def execSlaE (s : State) : Result := .next (rotLoc .sla (.reg .e) s)
/-- SLA H: bytes 0xCB 0x24 (R289). -/
def execSlaH (s : State) : Result := .next (rotLoc .sla (.reg .h) s)
/-- SLA L: bytes 0xCB 0x25 (R289). -/
def execSlaL (s : State) : Result := .next (rotLoc .sla (.reg .l) s)
/-- SLA (HL): bytes 0xCB 0x26 (R289). -/
def execSlaAtHL (s : State) : Result := .next (rotLoc .sla .atHL s)
/-- SLA A: bytes 0xCB 0x27 (R289). -/
def execSlaA (s : State) : Result := .next (rotLoc .sla (.reg .a) s)
/-- SRA B: bytes 0xCB 0x28 (R290). -/
def execSraB (s : State) : Result := .next (rotLoc .sra (.reg .b) s)
/-- SRA C: bytes 0xCB 0x29 (R290). -/
def execSraC (s : State) : Result := .next (rotLoc .sra (.reg .c) s)
/-- SRA D: bytes 0xCB 0x2A (R290). -/
def execSraD (s : State) : Result := .next (rotLoc .sra (.reg .d) s)
/-- SRA E: bytes 0xCB 0x2B (R290). -/
def execSraE (s : State) : Result := .next (rotLoc .sra (.reg .e) s)
/-- SRA H: bytes 0xCB 0x2C (R290). -/
def execSraH (s : State) : Result := .next (rotLoc .sra (.reg .h) s)
/-- SRA L: bytes 0xCB 0x2D (R290). -/
def execSraL (s : State) : Result := .next (rotLoc .sra (.reg .l) s)
/-- SRA (HL): bytes 0xCB 0x2E (R290). -/
def execSraAtHL (s : State) : Result := .next (rotLoc .sra .atHL s)
/-- SRA A: bytes 0xCB 0x2F (R290). -/
def execSraA (s : State) : Result := .next (rotLoc .sra (.reg .a) s)
/-- SWAP B: bytes 0xCB 0x30 (R291). -/
def execSwapB (s : State) : Result := .next (rotLoc .swap (.reg .b) s)
/-- SWAP C: bytes 0xCB 0x31 (R291). -/
def execSwapC (s : State) : Result := .next (rotLoc .swap (.reg .c) s)
/-- SWAP D: bytes 0xCB 0x32 (R291). -/
def execSwapD (s : State) : Result := .next (rotLoc .swap (.reg .d) s)
/-- SWAP E: bytes 0xCB 0x33 (R291). -/
def execSwapE (s : State) : Result := .next (rotLoc .swap (.reg .e) s)
/-- SWAP H: bytes 0xCB 0x34 (R291). -/
def execSwapH (s : State) : Result := .next (rotLoc .swap (.reg .h) s)
/-- SWAP L: bytes 0xCB 0x35 (R291). -/
def execSwapL (s : State) : Result := .next (rotLoc .swap (.reg .l) s)
/-- SWAP (HL): bytes 0xCB 0x36 (R291). -/
def execSwapAtHL (s : State) : Result := .next (rotLoc .swap .atHL s)
/-- SWAP A: bytes 0xCB 0x37 (R291). -/
def execSwapA (s : State) : Result := .next (rotLoc .swap (.reg .a) s)
/-- SRL B: bytes 0xCB 0x38 (R292). -/
def execSrlB (s : State) : Result := .next (rotLoc .srl (.reg .b) s)
/-- SRL C: bytes 0xCB 0x39 (R292). -/
def execSrlC (s : State) : Result := .next (rotLoc .srl (.reg .c) s)
/-- SRL D: bytes 0xCB 0x3A (R292). -/
def execSrlD (s : State) : Result := .next (rotLoc .srl (.reg .d) s)
/-- SRL E: bytes 0xCB 0x3B (R292). -/
def execSrlE (s : State) : Result := .next (rotLoc .srl (.reg .e) s)
/-- SRL H: bytes 0xCB 0x3C (R292). -/
def execSrlH (s : State) : Result := .next (rotLoc .srl (.reg .h) s)
/-- SRL L: bytes 0xCB 0x3D (R292). -/
def execSrlL (s : State) : Result := .next (rotLoc .srl (.reg .l) s)
/-- SRL (HL): bytes 0xCB 0x3E (R292). -/
def execSrlAtHL (s : State) : Result := .next (rotLoc .srl .atHL s)
/-- SRL A: bytes 0xCB 0x3F (R292). -/
def execSrlA (s : State) : Result := .next (rotLoc .srl (.reg .a) s)
/-- BIT 0,B: bytes 0xCB 0x40 (R293). -/
def execBit0B (s : State) : Result := .next (bitLoc 0 (.reg .b) s)
/-- BIT 0,C: bytes 0xCB 0x41 (R293). -/
def execBit0C (s : State) : Result := .next (bitLoc 0 (.reg .c) s)
/-- BIT 0,D: bytes 0xCB 0x42 (R293). -/
def execBit0D (s : State) : Result := .next (bitLoc 0 (.reg .d) s)
/-- BIT 0,E: bytes 0xCB 0x43 (R293). -/
def execBit0E (s : State) : Result := .next (bitLoc 0 (.reg .e) s)
/-- BIT 0,H: bytes 0xCB 0x44 (R293). -/
def execBit0H (s : State) : Result := .next (bitLoc 0 (.reg .h) s)
/-- BIT 0,L: bytes 0xCB 0x45 (R293). -/
def execBit0L (s : State) : Result := .next (bitLoc 0 (.reg .l) s)
/-- BIT 0,(HL): bytes 0xCB 0x46 (R293). -/
def execBit0AtHL (s : State) : Result := .next (bitLoc 0 .atHL s)
/-- BIT 0,A: bytes 0xCB 0x47 (R293). -/
def execBit0A (s : State) : Result := .next (bitLoc 0 (.reg .a) s)
/-- BIT 1,B: bytes 0xCB 0x48 (R293). -/
def execBit1B (s : State) : Result := .next (bitLoc 1 (.reg .b) s)
/-- BIT 1,C: bytes 0xCB 0x49 (R293). -/
def execBit1C (s : State) : Result := .next (bitLoc 1 (.reg .c) s)
/-- BIT 1,D: bytes 0xCB 0x4A (R293). -/
def execBit1D (s : State) : Result := .next (bitLoc 1 (.reg .d) s)
/-- BIT 1,E: bytes 0xCB 0x4B (R293). -/
def execBit1E (s : State) : Result := .next (bitLoc 1 (.reg .e) s)
/-- BIT 1,H: bytes 0xCB 0x4C (R293). -/
def execBit1H (s : State) : Result := .next (bitLoc 1 (.reg .h) s)
/-- BIT 1,L: bytes 0xCB 0x4D (R293). -/
def execBit1L (s : State) : Result := .next (bitLoc 1 (.reg .l) s)
/-- BIT 1,(HL): bytes 0xCB 0x4E (R293). -/
def execBit1AtHL (s : State) : Result := .next (bitLoc 1 .atHL s)
/-- BIT 1,A: bytes 0xCB 0x4F (R293). -/
def execBit1A (s : State) : Result := .next (bitLoc 1 (.reg .a) s)
/-- BIT 2,B: bytes 0xCB 0x50 (R293). -/
def execBit2B (s : State) : Result := .next (bitLoc 2 (.reg .b) s)
/-- BIT 2,C: bytes 0xCB 0x51 (R293). -/
def execBit2C (s : State) : Result := .next (bitLoc 2 (.reg .c) s)
/-- BIT 2,D: bytes 0xCB 0x52 (R293). -/
def execBit2D (s : State) : Result := .next (bitLoc 2 (.reg .d) s)
/-- BIT 2,E: bytes 0xCB 0x53 (R293). -/
def execBit2E (s : State) : Result := .next (bitLoc 2 (.reg .e) s)
/-- BIT 2,H: bytes 0xCB 0x54 (R293). -/
def execBit2H (s : State) : Result := .next (bitLoc 2 (.reg .h) s)
/-- BIT 2,L: bytes 0xCB 0x55 (R293). -/
def execBit2L (s : State) : Result := .next (bitLoc 2 (.reg .l) s)
/-- BIT 2,(HL): bytes 0xCB 0x56 (R293). -/
def execBit2AtHL (s : State) : Result := .next (bitLoc 2 .atHL s)
/-- BIT 2,A: bytes 0xCB 0x57 (R293). -/
def execBit2A (s : State) : Result := .next (bitLoc 2 (.reg .a) s)
/-- BIT 3,B: bytes 0xCB 0x58 (R293). -/
def execBit3B (s : State) : Result := .next (bitLoc 3 (.reg .b) s)
/-- BIT 3,C: bytes 0xCB 0x59 (R293). -/
def execBit3C (s : State) : Result := .next (bitLoc 3 (.reg .c) s)
/-- BIT 3,D: bytes 0xCB 0x5A (R293). -/
def execBit3D (s : State) : Result := .next (bitLoc 3 (.reg .d) s)
/-- BIT 3,E: bytes 0xCB 0x5B (R293). -/
def execBit3E (s : State) : Result := .next (bitLoc 3 (.reg .e) s)
/-- BIT 3,H: bytes 0xCB 0x5C (R293). -/
def execBit3H (s : State) : Result := .next (bitLoc 3 (.reg .h) s)
/-- BIT 3,L: bytes 0xCB 0x5D (R293). -/
def execBit3L (s : State) : Result := .next (bitLoc 3 (.reg .l) s)
/-- BIT 3,(HL): bytes 0xCB 0x5E (R293). -/
def execBit3AtHL (s : State) : Result := .next (bitLoc 3 .atHL s)
/-- BIT 3,A: bytes 0xCB 0x5F (R293). -/
def execBit3A (s : State) : Result := .next (bitLoc 3 (.reg .a) s)
/-- BIT 4,B: bytes 0xCB 0x60 (R293). -/
def execBit4B (s : State) : Result := .next (bitLoc 4 (.reg .b) s)
/-- BIT 4,C: bytes 0xCB 0x61 (R293). -/
def execBit4C (s : State) : Result := .next (bitLoc 4 (.reg .c) s)
/-- BIT 4,D: bytes 0xCB 0x62 (R293). -/
def execBit4D (s : State) : Result := .next (bitLoc 4 (.reg .d) s)
/-- BIT 4,E: bytes 0xCB 0x63 (R293). -/
def execBit4E (s : State) : Result := .next (bitLoc 4 (.reg .e) s)
/-- BIT 4,H: bytes 0xCB 0x64 (R293). -/
def execBit4H (s : State) : Result := .next (bitLoc 4 (.reg .h) s)
/-- BIT 4,L: bytes 0xCB 0x65 (R293). -/
def execBit4L (s : State) : Result := .next (bitLoc 4 (.reg .l) s)
/-- BIT 4,(HL): bytes 0xCB 0x66 (R293). -/
def execBit4AtHL (s : State) : Result := .next (bitLoc 4 .atHL s)
/-- BIT 4,A: bytes 0xCB 0x67 (R293). -/
def execBit4A (s : State) : Result := .next (bitLoc 4 (.reg .a) s)
/-- BIT 5,B: bytes 0xCB 0x68 (R293). -/
def execBit5B (s : State) : Result := .next (bitLoc 5 (.reg .b) s)
/-- BIT 5,C: bytes 0xCB 0x69 (R293). -/
def execBit5C (s : State) : Result := .next (bitLoc 5 (.reg .c) s)
/-- BIT 5,D: bytes 0xCB 0x6A (R293). -/
def execBit5D (s : State) : Result := .next (bitLoc 5 (.reg .d) s)
/-- BIT 5,E: bytes 0xCB 0x6B (R293). -/
def execBit5E (s : State) : Result := .next (bitLoc 5 (.reg .e) s)
/-- BIT 5,H: bytes 0xCB 0x6C (R293). -/
def execBit5H (s : State) : Result := .next (bitLoc 5 (.reg .h) s)
/-- BIT 5,L: bytes 0xCB 0x6D (R293). -/
def execBit5L (s : State) : Result := .next (bitLoc 5 (.reg .l) s)
/-- BIT 5,(HL): bytes 0xCB 0x6E (R293). -/
def execBit5AtHL (s : State) : Result := .next (bitLoc 5 .atHL s)
/-- BIT 5,A: bytes 0xCB 0x6F (R293). -/
def execBit5A (s : State) : Result := .next (bitLoc 5 (.reg .a) s)
/-- BIT 6,B: bytes 0xCB 0x70 (R293). -/
def execBit6B (s : State) : Result := .next (bitLoc 6 (.reg .b) s)
/-- BIT 6,C: bytes 0xCB 0x71 (R293). -/
def execBit6C (s : State) : Result := .next (bitLoc 6 (.reg .c) s)
/-- BIT 6,D: bytes 0xCB 0x72 (R293). -/
def execBit6D (s : State) : Result := .next (bitLoc 6 (.reg .d) s)
/-- BIT 6,E: bytes 0xCB 0x73 (R293). -/
def execBit6E (s : State) : Result := .next (bitLoc 6 (.reg .e) s)
/-- BIT 6,H: bytes 0xCB 0x74 (R293). -/
def execBit6H (s : State) : Result := .next (bitLoc 6 (.reg .h) s)
/-- BIT 6,L: bytes 0xCB 0x75 (R293). -/
def execBit6L (s : State) : Result := .next (bitLoc 6 (.reg .l) s)
/-- BIT 6,(HL): bytes 0xCB 0x76 (R293). -/
def execBit6AtHL (s : State) : Result := .next (bitLoc 6 .atHL s)
/-- BIT 6,A: bytes 0xCB 0x77 (R293). -/
def execBit6A (s : State) : Result := .next (bitLoc 6 (.reg .a) s)
/-- BIT 7,B: bytes 0xCB 0x78 (R293). -/
def execBit7B (s : State) : Result := .next (bitLoc 7 (.reg .b) s)
/-- BIT 7,C: bytes 0xCB 0x79 (R293). -/
def execBit7C (s : State) : Result := .next (bitLoc 7 (.reg .c) s)
/-- BIT 7,D: bytes 0xCB 0x7A (R293). -/
def execBit7D (s : State) : Result := .next (bitLoc 7 (.reg .d) s)
/-- BIT 7,E: bytes 0xCB 0x7B (R293). -/
def execBit7E (s : State) : Result := .next (bitLoc 7 (.reg .e) s)
/-- BIT 7,H: bytes 0xCB 0x7C (R293). -/
def execBit7H (s : State) : Result := .next (bitLoc 7 (.reg .h) s)
/-- BIT 7,L: bytes 0xCB 0x7D (R293). -/
def execBit7L (s : State) : Result := .next (bitLoc 7 (.reg .l) s)
/-- BIT 7,(HL): bytes 0xCB 0x7E (R293). -/
def execBit7AtHL (s : State) : Result := .next (bitLoc 7 .atHL s)
/-- BIT 7,A: bytes 0xCB 0x7F (R293). -/
def execBit7A (s : State) : Result := .next (bitLoc 7 (.reg .a) s)
/-- RES 0,B: bytes 0xCB 0x80 (R294). -/
def execRes0B (s : State) : Result := .next (resLoc 0 (.reg .b) s)
/-- RES 0,C: bytes 0xCB 0x81 (R294). -/
def execRes0C (s : State) : Result := .next (resLoc 0 (.reg .c) s)
/-- RES 0,D: bytes 0xCB 0x82 (R294). -/
def execRes0D (s : State) : Result := .next (resLoc 0 (.reg .d) s)
/-- RES 0,E: bytes 0xCB 0x83 (R294). -/
def execRes0E (s : State) : Result := .next (resLoc 0 (.reg .e) s)
/-- RES 0,H: bytes 0xCB 0x84 (R294). -/
def execRes0H (s : State) : Result := .next (resLoc 0 (.reg .h) s)
/-- RES 0,L: bytes 0xCB 0x85 (R294). -/
def execRes0L (s : State) : Result := .next (resLoc 0 (.reg .l) s)
/-- RES 0,(HL): bytes 0xCB 0x86 (R294). -/
def execRes0AtHL (s : State) : Result := .next (resLoc 0 .atHL s)
/-- RES 0,A: bytes 0xCB 0x87 (R294). -/
def execRes0A (s : State) : Result := .next (resLoc 0 (.reg .a) s)
/-- RES 1,B: bytes 0xCB 0x88 (R294). -/
def execRes1B (s : State) : Result := .next (resLoc 1 (.reg .b) s)
/-- RES 1,C: bytes 0xCB 0x89 (R294). -/
def execRes1C (s : State) : Result := .next (resLoc 1 (.reg .c) s)
/-- RES 1,D: bytes 0xCB 0x8A (R294). -/
def execRes1D (s : State) : Result := .next (resLoc 1 (.reg .d) s)
/-- RES 1,E: bytes 0xCB 0x8B (R294). -/
def execRes1E (s : State) : Result := .next (resLoc 1 (.reg .e) s)
/-- RES 1,H: bytes 0xCB 0x8C (R294). -/
def execRes1H (s : State) : Result := .next (resLoc 1 (.reg .h) s)
/-- RES 1,L: bytes 0xCB 0x8D (R294). -/
def execRes1L (s : State) : Result := .next (resLoc 1 (.reg .l) s)
/-- RES 1,(HL): bytes 0xCB 0x8E (R294). -/
def execRes1AtHL (s : State) : Result := .next (resLoc 1 .atHL s)
/-- RES 1,A: bytes 0xCB 0x8F (R294). -/
def execRes1A (s : State) : Result := .next (resLoc 1 (.reg .a) s)
/-- RES 2,B: bytes 0xCB 0x90 (R294). -/
def execRes2B (s : State) : Result := .next (resLoc 2 (.reg .b) s)
/-- RES 2,C: bytes 0xCB 0x91 (R294). -/
def execRes2C (s : State) : Result := .next (resLoc 2 (.reg .c) s)
/-- RES 2,D: bytes 0xCB 0x92 (R294). -/
def execRes2D (s : State) : Result := .next (resLoc 2 (.reg .d) s)
/-- RES 2,E: bytes 0xCB 0x93 (R294). -/
def execRes2E (s : State) : Result := .next (resLoc 2 (.reg .e) s)
/-- RES 2,H: bytes 0xCB 0x94 (R294). -/
def execRes2H (s : State) : Result := .next (resLoc 2 (.reg .h) s)
/-- RES 2,L: bytes 0xCB 0x95 (R294). -/
def execRes2L (s : State) : Result := .next (resLoc 2 (.reg .l) s)
/-- RES 2,(HL): bytes 0xCB 0x96 (R294). -/
def execRes2AtHL (s : State) : Result := .next (resLoc 2 .atHL s)
/-- RES 2,A: bytes 0xCB 0x97 (R294). -/
def execRes2A (s : State) : Result := .next (resLoc 2 (.reg .a) s)
/-- RES 3,B: bytes 0xCB 0x98 (R294). -/
def execRes3B (s : State) : Result := .next (resLoc 3 (.reg .b) s)
/-- RES 3,C: bytes 0xCB 0x99 (R294). -/
def execRes3C (s : State) : Result := .next (resLoc 3 (.reg .c) s)
/-- RES 3,D: bytes 0xCB 0x9A (R294). -/
def execRes3D (s : State) : Result := .next (resLoc 3 (.reg .d) s)
/-- RES 3,E: bytes 0xCB 0x9B (R294). -/
def execRes3E (s : State) : Result := .next (resLoc 3 (.reg .e) s)
/-- RES 3,H: bytes 0xCB 0x9C (R294). -/
def execRes3H (s : State) : Result := .next (resLoc 3 (.reg .h) s)
/-- RES 3,L: bytes 0xCB 0x9D (R294). -/
def execRes3L (s : State) : Result := .next (resLoc 3 (.reg .l) s)
/-- RES 3,(HL): bytes 0xCB 0x9E (R294). -/
def execRes3AtHL (s : State) : Result := .next (resLoc 3 .atHL s)
/-- RES 3,A: bytes 0xCB 0x9F (R294). -/
def execRes3A (s : State) : Result := .next (resLoc 3 (.reg .a) s)
/-- RES 4,B: bytes 0xCB 0xA0 (R294). -/
def execRes4B (s : State) : Result := .next (resLoc 4 (.reg .b) s)
/-- RES 4,C: bytes 0xCB 0xA1 (R294). -/
def execRes4C (s : State) : Result := .next (resLoc 4 (.reg .c) s)
/-- RES 4,D: bytes 0xCB 0xA2 (R294). -/
def execRes4D (s : State) : Result := .next (resLoc 4 (.reg .d) s)
/-- RES 4,E: bytes 0xCB 0xA3 (R294). -/
def execRes4E (s : State) : Result := .next (resLoc 4 (.reg .e) s)
/-- RES 4,H: bytes 0xCB 0xA4 (R294). -/
def execRes4H (s : State) : Result := .next (resLoc 4 (.reg .h) s)
/-- RES 4,L: bytes 0xCB 0xA5 (R294). -/
def execRes4L (s : State) : Result := .next (resLoc 4 (.reg .l) s)
/-- RES 4,(HL): bytes 0xCB 0xA6 (R294). -/
def execRes4AtHL (s : State) : Result := .next (resLoc 4 .atHL s)
/-- RES 4,A: bytes 0xCB 0xA7 (R294). -/
def execRes4A (s : State) : Result := .next (resLoc 4 (.reg .a) s)
/-- RES 5,B: bytes 0xCB 0xA8 (R294). -/
def execRes5B (s : State) : Result := .next (resLoc 5 (.reg .b) s)
/-- RES 5,C: bytes 0xCB 0xA9 (R294). -/
def execRes5C (s : State) : Result := .next (resLoc 5 (.reg .c) s)
/-- RES 5,D: bytes 0xCB 0xAA (R294). -/
def execRes5D (s : State) : Result := .next (resLoc 5 (.reg .d) s)
/-- RES 5,E: bytes 0xCB 0xAB (R294). -/
def execRes5E (s : State) : Result := .next (resLoc 5 (.reg .e) s)
/-- RES 5,H: bytes 0xCB 0xAC (R294). -/
def execRes5H (s : State) : Result := .next (resLoc 5 (.reg .h) s)
/-- RES 5,L: bytes 0xCB 0xAD (R294). -/
def execRes5L (s : State) : Result := .next (resLoc 5 (.reg .l) s)
/-- RES 5,(HL): bytes 0xCB 0xAE (R294). -/
def execRes5AtHL (s : State) : Result := .next (resLoc 5 .atHL s)
/-- RES 5,A: bytes 0xCB 0xAF (R294). -/
def execRes5A (s : State) : Result := .next (resLoc 5 (.reg .a) s)
/-- RES 6,B: bytes 0xCB 0xB0 (R294). -/
def execRes6B (s : State) : Result := .next (resLoc 6 (.reg .b) s)
/-- RES 6,C: bytes 0xCB 0xB1 (R294). -/
def execRes6C (s : State) : Result := .next (resLoc 6 (.reg .c) s)
/-- RES 6,D: bytes 0xCB 0xB2 (R294). -/
def execRes6D (s : State) : Result := .next (resLoc 6 (.reg .d) s)
/-- RES 6,E: bytes 0xCB 0xB3 (R294). -/
def execRes6E (s : State) : Result := .next (resLoc 6 (.reg .e) s)
/-- RES 6,H: bytes 0xCB 0xB4 (R294). -/
def execRes6H (s : State) : Result := .next (resLoc 6 (.reg .h) s)
/-- RES 6,L: bytes 0xCB 0xB5 (R294). -/
def execRes6L (s : State) : Result := .next (resLoc 6 (.reg .l) s)
/-- RES 6,(HL): bytes 0xCB 0xB6 (R294). -/
def execRes6AtHL (s : State) : Result := .next (resLoc 6 .atHL s)
/-- RES 6,A: bytes 0xCB 0xB7 (R294). -/
def execRes6A (s : State) : Result := .next (resLoc 6 (.reg .a) s)
/-- RES 7,B: bytes 0xCB 0xB8 (R294). -/
def execRes7B (s : State) : Result := .next (resLoc 7 (.reg .b) s)
/-- RES 7,C: bytes 0xCB 0xB9 (R294). -/
def execRes7C (s : State) : Result := .next (resLoc 7 (.reg .c) s)
/-- RES 7,D: bytes 0xCB 0xBA (R294). -/
def execRes7D (s : State) : Result := .next (resLoc 7 (.reg .d) s)
/-- RES 7,E: bytes 0xCB 0xBB (R294). -/
def execRes7E (s : State) : Result := .next (resLoc 7 (.reg .e) s)
/-- RES 7,H: bytes 0xCB 0xBC (R294). -/
def execRes7H (s : State) : Result := .next (resLoc 7 (.reg .h) s)
/-- RES 7,L: bytes 0xCB 0xBD (R294). -/
def execRes7L (s : State) : Result := .next (resLoc 7 (.reg .l) s)
/-- RES 7,(HL): bytes 0xCB 0xBE (R294). -/
def execRes7AtHL (s : State) : Result := .next (resLoc 7 .atHL s)
/-- RES 7,A: bytes 0xCB 0xBF (R294). -/
def execRes7A (s : State) : Result := .next (resLoc 7 (.reg .a) s)
/-- SET 0,B: bytes 0xCB 0xC0 (R295). -/
def execSet0B (s : State) : Result := .next (setLoc 0 (.reg .b) s)
/-- SET 0,C: bytes 0xCB 0xC1 (R295). -/
def execSet0C (s : State) : Result := .next (setLoc 0 (.reg .c) s)
/-- SET 0,D: bytes 0xCB 0xC2 (R295). -/
def execSet0D (s : State) : Result := .next (setLoc 0 (.reg .d) s)
/-- SET 0,E: bytes 0xCB 0xC3 (R295). -/
def execSet0E (s : State) : Result := .next (setLoc 0 (.reg .e) s)
/-- SET 0,H: bytes 0xCB 0xC4 (R295). -/
def execSet0H (s : State) : Result := .next (setLoc 0 (.reg .h) s)
/-- SET 0,L: bytes 0xCB 0xC5 (R295). -/
def execSet0L (s : State) : Result := .next (setLoc 0 (.reg .l) s)
/-- SET 0,(HL): bytes 0xCB 0xC6 (R295). -/
def execSet0AtHL (s : State) : Result := .next (setLoc 0 .atHL s)
/-- SET 0,A: bytes 0xCB 0xC7 (R295). -/
def execSet0A (s : State) : Result := .next (setLoc 0 (.reg .a) s)
/-- SET 1,B: bytes 0xCB 0xC8 (R295). -/
def execSet1B (s : State) : Result := .next (setLoc 1 (.reg .b) s)
/-- SET 1,C: bytes 0xCB 0xC9 (R295). -/
def execSet1C (s : State) : Result := .next (setLoc 1 (.reg .c) s)
/-- SET 1,D: bytes 0xCB 0xCA (R295). -/
def execSet1D (s : State) : Result := .next (setLoc 1 (.reg .d) s)
/-- SET 1,E: bytes 0xCB 0xCB (R295). -/
def execSet1E (s : State) : Result := .next (setLoc 1 (.reg .e) s)
/-- SET 1,H: bytes 0xCB 0xCC (R295). -/
def execSet1H (s : State) : Result := .next (setLoc 1 (.reg .h) s)
/-- SET 1,L: bytes 0xCB 0xCD (R295). -/
def execSet1L (s : State) : Result := .next (setLoc 1 (.reg .l) s)
/-- SET 1,(HL): bytes 0xCB 0xCE (R295). -/
def execSet1AtHL (s : State) : Result := .next (setLoc 1 .atHL s)
/-- SET 1,A: bytes 0xCB 0xCF (R295). -/
def execSet1A (s : State) : Result := .next (setLoc 1 (.reg .a) s)
/-- SET 2,B: bytes 0xCB 0xD0 (R295). -/
def execSet2B (s : State) : Result := .next (setLoc 2 (.reg .b) s)
/-- SET 2,C: bytes 0xCB 0xD1 (R295). -/
def execSet2C (s : State) : Result := .next (setLoc 2 (.reg .c) s)
/-- SET 2,D: bytes 0xCB 0xD2 (R295). -/
def execSet2D (s : State) : Result := .next (setLoc 2 (.reg .d) s)
/-- SET 2,E: bytes 0xCB 0xD3 (R295). -/
def execSet2E (s : State) : Result := .next (setLoc 2 (.reg .e) s)
/-- SET 2,H: bytes 0xCB 0xD4 (R295). -/
def execSet2H (s : State) : Result := .next (setLoc 2 (.reg .h) s)
/-- SET 2,L: bytes 0xCB 0xD5 (R295). -/
def execSet2L (s : State) : Result := .next (setLoc 2 (.reg .l) s)
/-- SET 2,(HL): bytes 0xCB 0xD6 (R295). -/
def execSet2AtHL (s : State) : Result := .next (setLoc 2 .atHL s)
/-- SET 2,A: bytes 0xCB 0xD7 (R295). -/
def execSet2A (s : State) : Result := .next (setLoc 2 (.reg .a) s)
/-- SET 3,B: bytes 0xCB 0xD8 (R295). -/
def execSet3B (s : State) : Result := .next (setLoc 3 (.reg .b) s)
/-- SET 3,C: bytes 0xCB 0xD9 (R295). -/
def execSet3C (s : State) : Result := .next (setLoc 3 (.reg .c) s)
/-- SET 3,D: bytes 0xCB 0xDA (R295). -/
def execSet3D (s : State) : Result := .next (setLoc 3 (.reg .d) s)
/-- SET 3,E: bytes 0xCB 0xDB (R295). -/
def execSet3E (s : State) : Result := .next (setLoc 3 (.reg .e) s)
/-- SET 3,H: bytes 0xCB 0xDC (R295). -/
def execSet3H (s : State) : Result := .next (setLoc 3 (.reg .h) s)
/-- SET 3,L: bytes 0xCB 0xDD (R295). -/
def execSet3L (s : State) : Result := .next (setLoc 3 (.reg .l) s)
/-- SET 3,(HL): bytes 0xCB 0xDE (R295). -/
def execSet3AtHL (s : State) : Result := .next (setLoc 3 .atHL s)
/-- SET 3,A: bytes 0xCB 0xDF (R295). -/
def execSet3A (s : State) : Result := .next (setLoc 3 (.reg .a) s)
/-- SET 4,B: bytes 0xCB 0xE0 (R295). -/
def execSet4B (s : State) : Result := .next (setLoc 4 (.reg .b) s)
/-- SET 4,C: bytes 0xCB 0xE1 (R295). -/
def execSet4C (s : State) : Result := .next (setLoc 4 (.reg .c) s)
/-- SET 4,D: bytes 0xCB 0xE2 (R295). -/
def execSet4D (s : State) : Result := .next (setLoc 4 (.reg .d) s)
/-- SET 4,E: bytes 0xCB 0xE3 (R295). -/
def execSet4E (s : State) : Result := .next (setLoc 4 (.reg .e) s)
/-- SET 4,H: bytes 0xCB 0xE4 (R295). -/
def execSet4H (s : State) : Result := .next (setLoc 4 (.reg .h) s)
/-- SET 4,L: bytes 0xCB 0xE5 (R295). -/
def execSet4L (s : State) : Result := .next (setLoc 4 (.reg .l) s)
/-- SET 4,(HL): bytes 0xCB 0xE6 (R295). -/
def execSet4AtHL (s : State) : Result := .next (setLoc 4 .atHL s)
/-- SET 4,A: bytes 0xCB 0xE7 (R295). -/
def execSet4A (s : State) : Result := .next (setLoc 4 (.reg .a) s)
/-- SET 5,B: bytes 0xCB 0xE8 (R295). -/
def execSet5B (s : State) : Result := .next (setLoc 5 (.reg .b) s)
/-- SET 5,C: bytes 0xCB 0xE9 (R295). -/
def execSet5C (s : State) : Result := .next (setLoc 5 (.reg .c) s)
/-- SET 5,D: bytes 0xCB 0xEA (R295). -/
def execSet5D (s : State) : Result := .next (setLoc 5 (.reg .d) s)
/-- SET 5,E: bytes 0xCB 0xEB (R295). -/
def execSet5E (s : State) : Result := .next (setLoc 5 (.reg .e) s)
/-- SET 5,H: bytes 0xCB 0xEC (R295). -/
def execSet5H (s : State) : Result := .next (setLoc 5 (.reg .h) s)
/-- SET 5,L: bytes 0xCB 0xED (R295). -/
def execSet5L (s : State) : Result := .next (setLoc 5 (.reg .l) s)
/-- SET 5,(HL): bytes 0xCB 0xEE (R295). -/
def execSet5AtHL (s : State) : Result := .next (setLoc 5 .atHL s)
/-- SET 5,A: bytes 0xCB 0xEF (R295). -/
def execSet5A (s : State) : Result := .next (setLoc 5 (.reg .a) s)
/-- SET 6,B: bytes 0xCB 0xF0 (R295). -/
def execSet6B (s : State) : Result := .next (setLoc 6 (.reg .b) s)
/-- SET 6,C: bytes 0xCB 0xF1 (R295). -/
def execSet6C (s : State) : Result := .next (setLoc 6 (.reg .c) s)
/-- SET 6,D: bytes 0xCB 0xF2 (R295). -/
def execSet6D (s : State) : Result := .next (setLoc 6 (.reg .d) s)
/-- SET 6,E: bytes 0xCB 0xF3 (R295). -/
def execSet6E (s : State) : Result := .next (setLoc 6 (.reg .e) s)
/-- SET 6,H: bytes 0xCB 0xF4 (R295). -/
def execSet6H (s : State) : Result := .next (setLoc 6 (.reg .h) s)
/-- SET 6,L: bytes 0xCB 0xF5 (R295). -/
def execSet6L (s : State) : Result := .next (setLoc 6 (.reg .l) s)
/-- SET 6,(HL): bytes 0xCB 0xF6 (R295). -/
def execSet6AtHL (s : State) : Result := .next (setLoc 6 .atHL s)
/-- SET 6,A: bytes 0xCB 0xF7 (R295). -/
def execSet6A (s : State) : Result := .next (setLoc 6 (.reg .a) s)
/-- SET 7,B: bytes 0xCB 0xF8 (R295). -/
def execSet7B (s : State) : Result := .next (setLoc 7 (.reg .b) s)
/-- SET 7,C: bytes 0xCB 0xF9 (R295). -/
def execSet7C (s : State) : Result := .next (setLoc 7 (.reg .c) s)
/-- SET 7,D: bytes 0xCB 0xFA (R295). -/
def execSet7D (s : State) : Result := .next (setLoc 7 (.reg .d) s)
/-- SET 7,E: bytes 0xCB 0xFB (R295). -/
def execSet7E (s : State) : Result := .next (setLoc 7 (.reg .e) s)
/-- SET 7,H: bytes 0xCB 0xFC (R295). -/
def execSet7H (s : State) : Result := .next (setLoc 7 (.reg .h) s)
/-- SET 7,L: bytes 0xCB 0xFD (R295). -/
def execSet7L (s : State) : Result := .next (setLoc 7 (.reg .l) s)
/-- SET 7,(HL): bytes 0xCB 0xFE (R295). -/
def execSet7AtHL (s : State) : Result := .next (setLoc 7 .atHL s)
/-- SET 7,A: bytes 0xCB 0xFF (R295). -/
def execSet7A (s : State) : Result := .next (setLoc 7 (.reg .a) s)

end Sys2Proof.Machine
end

