-- ==== Sys2Proof/Machine/System.lean ====
section
/-! DEFINITION. System instructions and the eleven unrecognised bytes (spec/46_system.md). -/

namespace Sys2Proof.Machine

/-- NOP (R350). -/
def nop (s : State) : State := s

/-- HALT (R351). -/
def halt (s : State) : State := s.setHalted true

/-- STOP: a one-byte no-op (R352). -/
def stop (s : State) : State := s

/-- DI acts at once (R353). -/
def di (s : State) : State := s.setIme false

/-- EI acts at once (R354). -/
def ei (s : State) : State := s.setIme true

/-- An unrecognised byte raises the fatal error with the address it was fetched from, one before PC (R355, R400). -/
def unrecognised (opcode : Byte) (s : State) : State := raiseFatal opcode (s.cpu.pc - 1) s

/-- NOP: byte 0x00 (R350). -/
def execNop (s : State) : Result := .next (nop s)
/-- STOP: byte 0x10 (R352). -/
def execStop (s : State) : Result := .next (stop s)
/-- HALT: byte 0x76 (R351). -/
def execHalt (s : State) : Result := .next (halt s)
/-- unrecognised 0xD3: byte 0xD3 (R355). -/
def execUnrecognisedD3 (s : State) : Result := .next (unrecognised 0xD3 s)
/-- unrecognised 0xDB: byte 0xDB (R355). -/
def execUnrecognisedDB (s : State) : Result := .next (unrecognised 0xDB s)
/-- unrecognised 0xDD: byte 0xDD (R355). -/
def execUnrecognisedDD (s : State) : Result := .next (unrecognised 0xDD s)
/-- unrecognised 0xE3: byte 0xE3 (R355). -/
def execUnrecognisedE3 (s : State) : Result := .next (unrecognised 0xE3 s)
/-- unrecognised 0xE4: byte 0xE4 (R355). -/
def execUnrecognisedE4 (s : State) : Result := .next (unrecognised 0xE4 s)
/-- unrecognised 0xEB: byte 0xEB (R355). -/
def execUnrecognisedEB (s : State) : Result := .next (unrecognised 0xEB s)
/-- unrecognised 0xEC: byte 0xEC (R355). -/
def execUnrecognisedEC (s : State) : Result := .next (unrecognised 0xEC s)
/-- unrecognised 0xED: byte 0xED (R355). -/
def execUnrecognisedED (s : State) : Result := .next (unrecognised 0xED s)
/-- DI: byte 0xF3 (R353). -/
def execDi (s : State) : Result := .next (di s)
/-- unrecognised 0xF4: byte 0xF4 (R355). -/
def execUnrecognisedF4 (s : State) : Result := .next (unrecognised 0xF4 s)
/-- EI: byte 0xFB (R354). -/
def execEi (s : State) : Result := .next (ei s)
/-- unrecognised 0xFC: byte 0xFC (R355). -/
def execUnrecognisedFC (s : State) : Result := .next (unrecognised 0xFC s)
/-- unrecognised 0xFD: byte 0xFD (R355). -/
def execUnrecognisedFD (s : State) : Result := .next (unrecognised 0xFD s)

end Sys2Proof.Machine
end

