-- ==== Sys2Proof/Machine/Step.lean ====
section
/-! DEFINITION. One step of the machine (R545), and the placing of an instruction where the next step fetches it (log 17). -/

namespace Sys2Proof.Machine

/-- `Step()` (R545): stuck on a latched fatal error; an idle tick while halted; else fetch, decode and execute one instruction.
The interrupt check ends the step unless the instruction raised the fatal error. -/
def step (s : State) : Host.Outcome State Fault Refusal :=
  match s.cpu.fault with
  | some (opcode, addr) => .fault (.fatal opcode addr)
  | none =>
    let s0 := betweenSteps s
    if s0.cpu.halted then .next (interruptCheck (idleTick s0))
    else
      match fetchInstr s0 with
      | (i, s1) => finishStep (exec i s1)

/-- The state with an opcode-table word stored where the next step fetches (log 12, log 17). -/
def State.withFetchWord (s : State) (nbits w : Nat) : State :=
  match tableBytes nbits w with
  | (b0, b1, b2) => placeBytes b0 b1 b2 s

end Sys2Proof.Machine
end

