-- ==== Sys2Proof/Machine/Frame.lean ====
section
/-! DEFINITION. The host's frame loop and breakpoints (R548, R549): software outside the hardware, written down so that a claim
can speak of a frame (log 19). -/

namespace Sys2Proof.Machine

/-- How a call of `runFrame` ends. -/
inductive FrameEnd
  | complete (s : State)   -- the frame's cycle budget is reached
  | paused (s : State)     -- PC stands at an enabled breakpoint
  | stopped (s : State)    -- the fatal error is latched, no further step exists
deriving DecidableEq, Repr

/-- Whether an address carries an enabled breakpoint: the first entry for it decides (R549). -/
def breakpointEnabled (breakpoints : List (Word × Bool)) (pc : Word) : Bool :=
  match breakpoints with
  | [] => false
  | (a, on) :: rest => if a = pc then on else breakpointEnabled rest pc

/-- The loop of `runFrame`, with the number of steps still allowed (R548). -/
def frameLoop (breakpoints : List (Word × Bool)) (start : Nat) : Nat → State → FrameEnd
  | 0, s => .complete s
  | fuel + 1, s =>
    match step s with
    | .next t =>
      if t.cpu.fault.isSome then .stopped t
      else if breakpointEnabled breakpoints t.cpu.pc then .paused t
      else if t.cpu.cyc - start ≥ Config.frameCycles then .complete t
      else frameLoop breakpoints start fuel t
    | .fault _ => .stopped s
    | .refused _ => .stopped s

/-- `runFrame()` (R548): a step costs at least 4 cycles, so 17477 steps reach the budget. -/
def runFrame (breakpoints : List (Word × Bool)) (s : State) : FrameEnd :=
  frameLoop breakpoints s.cpu.cyc (Config.frameCycles / 4 + 1) s

end Sys2Proof.Machine
end

