-- ==== Sys2Proof/Machine/Launch.lean ====
section
/-! DEFINITION. What the host does to the machine from outside: loading a ROM (R472, R533) and the save block (R512, R513). No
step uses these. -/

namespace Sys2Proof.Machine

/-- The bytes of a list as a byte array, the first at address 0. -/
def Memory.ofBytes (bytes : List Byte) : Memory :=
  (bytes.zipIdx.map fun bk => (bk.2, bk.1)).filter fun kv => decide (kv.2 ≠ Memory.unlisted)

/-- The ROM image of a byte sequence (R44). -/
def Rom.ofBytes (bytes : List Byte) : Rom where
  size := bytes.length
  cells := Memory.ofBytes bytes

/-- The cartridge kind of a type code (R472). -/
def kindOfCode (code : Byte) : CartKind :=
  if code = 0x01 ∨ code = 0x02 ∨ code = 0x03 then .mbc1
  else if code = 0x0F ∨ code = 0x10 then .mbc3Timer
  else if code = 0x11 ∨ code = 0x12 ∨ code = 0x13 then .mbc3
  else .romOnly

/-- The cartridge kind of an image, from its header byte; an image shorter than 0x0148 bytes is `ROM_ONLY` (R472). -/
def cartKindOf (rom : Rom) : CartKind :=
  if rom.size < 0x0148 then .romOnly else kindOfCode (rom.cells.read 0x0147)

/-- The title bytes of the header (R471). Of an image that ends before 0x0144 the missing bytes read as 0x00: DESIGN CHOICE,
unsafe (log 22), since the spec says nothing of them. -/
def Rom.title (rom : Rom) : List Byte := (List.range 16).map fun k => rom.cells.read (0x0134 + k)

/-- Reset with a ROM loaded (R530, R533): the kind is the image's own, every other parameter of R7 an argument. -/
def State.launch (rom : Rom) (mode : RtcMode) (period : Nat) (ext : ExtMode) (rv : ResetValues) (init : InitMem) : State :=
  State.resetWith { rom := rom, cartKind := cartKindOf rom, rtcMode := mode, rtcCyclesPerTick := period, ext := ext } rv init

/-- A number's little-endian bytes, `n` of them. -/
def leBytes : Nat → Nat → List Byte
  | 0, _ => []
  | n + 1, v => BitVec.ofNat 8 v :: leBytes n (v / 256)

/-- The ten four-byte slots and the eight-byte timestamp of a timer cartridge (R512). -/
def rtcBlock (c : Cart) : List Byte :=
  (([0, 1, 2, 3, 4] : List (Fin 5)).flatMap fun i => leBytes 4 (c.rtcLive.get i).toNat) ++
  (([0, 1, 2, 3, 4] : List (Fin 5)).flatMap fun i => leBytes 4 (c.rtcLatched.get i).toNat) ++
  leBytes 8 c.rtcStamp.toNat

/-- `saveSRAM()` (R512). A cartridge without RAM has nothing to save (log 18). -/
def saveSRAM (s : State) : List Byte :=
  match s.params.cartKind with
  | .romOnly => []
  | .mbc1 => []
  | .mbc3 => (List.range 0x8000).map s.cart.ram.read
  | .mbc3Timer => (List.range 0x8000).map s.cart.ram.read ++ rtcBlock s.cart

/-- The RTC registers in five slots from byte `at0` of a block, each reduced by its mask (R513). -/
def rtcFromBlock (bytes : List Byte) (at0 : Nat) : Rtc :=
  let slot := fun (i : Fin 5) => bytes.getD (at0 + 4 * i.val) 0 &&& Rtc.mask i
  { seconds := slot 0, minutes := slot 1, hours := slot 2, daysLower := slot 3, daysUpper := slot 4 }

/-- The little-endian 32-bit number at byte `at0` of a block. -/
def stampFromBlock (bytes : List Byte) (at0 : Nat) : BitVec 32 :=
  bytes.getD (at0 + 3) 0 ++ bytes.getD (at0 + 2) 0 ++ bytes.getD (at0 + 1) 0 ++ bytes.getD at0 0

/-- `loadSRAM(bytes)` (R513): accepted at length 32768 on either MBC3 kind and at 32816 on a timer cartridge; any other block
changes nothing. -/
def loadSRAM (bytes : List Byte) (s : State) : State :=
  let ram := Memory.ofBytes (bytes.take 0x8000)
  if hasRam s.params.cartKind && bytes.length == 32768 then { s with cart := { s.cart with ram := ram } }
  else if s.params.cartKind = .mbc3Timer ∧ bytes.length = 32816 then
    { s with cart := { s.cart with ram := ram, rtcLive := rtcFromBlock bytes 32768, rtcLatched := rtcFromBlock bytes 32788,
                                   rtcStamp := stampFromBlock bytes 32808 } }
  else s

end Sys2Proof.Machine
end

