-- ==== Sys2Proof/Machine/Timing.lean ====
section
/-! DEFINITION. The cycle cost of each instruction as spec/opcode_table.json lists it (R149, R547): `cycles`, and `cycles_taken`
for the sixteen conditional transfers when their condition holds. The meanings do not use this table: it is what their ticks
must add up to. -/

namespace Sys2Proof

/-- Total cycles of an instruction, opcode and operand fetches included; `taken` says that its condition holds. -/
def Instr.cycles (i : Instr) (taken : Bool) : Nat :=
  match i with
  | .ldAtBCA => 8
  | .ldBN _ => 8
  | .ldAAtBC => 8
  | .ldCN _ => 8
  | .ldAtDEA => 8
  | .ldDN _ => 8
  | .ldAAtDE => 8
  | .ldEN _ => 8
  | .ldAtHLIncA => 8
  | .ldHN _ => 8
  | .ldAAtHLInc => 8
  | .ldLN _ => 8
  | .ldAtHLDecA => 8
  | .ldAtHLN _ => 12
  | .ldAAtHLDec => 8
  | .ldAN _ => 8
  | .ldBB => 4
  | .ldBC => 4
  | .ldBD => 4
  | .ldBE => 4
  | .ldBH => 4
  | .ldBL => 4
  | .ldBAtHL => 8
  | .ldBA => 4
  | .ldCB => 4
  | .ldCC => 4
  | .ldCD => 4
  | .ldCE => 4
  | .ldCH => 4
  | .ldCL => 4
  | .ldCAtHL => 8
  | .ldCA => 4
  | .ldDB => 4
  | .ldDC => 4
  | .ldDD => 4
  | .ldDE => 4
  | .ldDH => 4
  | .ldDL => 4
  | .ldDAtHL => 8
  | .ldDA => 4
  | .ldEB => 4
  | .ldEC => 4
  | .ldED => 4
  | .ldEE => 4
  | .ldEH => 4
  | .ldEL => 4
  | .ldEAtHL => 8
  | .ldEA => 4
  | .ldHB => 4
  | .ldHC => 4
  | .ldHD => 4
  | .ldHE => 4
  | .ldHH => 4
  | .ldHL => 4
  | .ldHAtHL => 8
  | .ldHA => 4
  | .ldLB => 4
  | .ldLC => 4
  | .ldLD => 4
  | .ldLE => 4
  | .ldLH => 4
  | .ldLL => 4
  | .ldLAtHL => 8
  | .ldLA => 4
  | .ldAtHLB => 8
  | .ldAtHLC => 8
  | .ldAtHLD => 8
  | .ldAtHLE => 8
  | .ldAtHLH => 8
  | .ldAtHLL => 8
  | .ldAtHLA => 8
  | .ldAB => 4
  | .ldAC => 4
  | .ldAD => 4
  | .ldAE => 4
  | .ldAH => 4
  | .ldAL => 4
  | .ldAAtHL => 8
  | .ldAA => 4
  | .ldhAtNA _ => 12
  | .ldAtHighCA => 8
  | .ldAtNNA _ => 16
  | .ldhAAtN _ => 12
  | .ldAAtHighC => 8
  | .ldAAtNN _ => 16
  | .ldBCNN _ => 12
  | .ldAtNNSP _ => 20
  | .ldDENN _ => 12
  | .ldHLNN _ => 12
  | .ldSPNN _ => 12
  | .popBC => 12
  | .pushBC => 16
  | .popDE => 12
  | .pushDE => 16
  | .popHL => 12
  | .pushHL => 16
  | .popAF => 12
  | .pushAF => 16
  | .ldHLSPPlusE _ => 12
  | .ldSPHL => 8
  | .incB => 4
  | .decB => 4
  | .incC => 4
  | .decC => 4
  | .incD => 4
  | .decD => 4
  | .incE => 4
  | .decE => 4
  | .incH => 4
  | .decH => 4
  | .daa => 4
  | .incL => 4
  | .decL => 4
  | .cpl => 4
  | .incAtHL => 12
  | .decAtHL => 12
  | .scf => 4
  | .incA => 4
  | .decA => 4
  | .ccf => 4
  | .addAB => 4
  | .addAC => 4
  | .addAD => 4
  | .addAE => 4
  | .addAH => 4
  | .addAL => 4
  | .addAAtHL => 8
  | .addAA => 4
  | .adcAB => 4
  | .adcAC => 4
  | .adcAD => 4
  | .adcAE => 4
  | .adcAH => 4
  | .adcAL => 4
  | .adcAAtHL => 8
  | .adcAA => 4
  | .subB => 4
  | .subC => 4
  | .subD => 4
  | .subE => 4
  | .subH => 4
  | .subL => 4
  | .subAtHL => 8
  | .subA => 4
  | .sbcAB => 4
  | .sbcAC => 4
  | .sbcAD => 4
  | .sbcAE => 4
  | .sbcAH => 4
  | .sbcAL => 4
  | .sbcAAtHL => 8
  | .sbcAA => 4
  | .andB => 4
  | .andC => 4
  | .andD => 4
  | .andE => 4
  | .andH => 4
  | .andL => 4
  | .andAtHL => 8
  | .andA => 4
  | .xorB => 4
  | .xorC => 4
  | .xorD => 4
  | .xorE => 4
  | .xorH => 4
  | .xorL => 4
  | .xorAtHL => 8
  | .xorA => 4
  | .orB => 4
  | .orC => 4
  | .orD => 4
  | .orE => 4
  | .orH => 4
  | .orL => 4
  | .orAtHL => 8
  | .orA => 4
  | .cpB => 4
  | .cpC => 4
  | .cpD => 4
  | .cpE => 4
  | .cpH => 4
  | .cpL => 4
  | .cpAtHL => 8
  | .cpA => 4
  | .addAN _ => 8
  | .adcAN _ => 8
  | .subN _ => 8
  | .sbcAN _ => 8
  | .andN _ => 8
  | .xorN _ => 8
  | .orN _ => 8
  | .cpN _ => 8
  | .incBC => 8
  | .addHLBC => 8
  | .decBC => 8
  | .incDE => 8
  | .addHLDE => 8
  | .decDE => 8
  | .incHL => 8
  | .addHLHL => 8
  | .decHL => 8
  | .incSP => 8
  | .addHLSP => 8
  | .decSP => 8
  | .addSPE _ => 16
  | .rlca => 4
  | .rrca => 4
  | .rla => 4
  | .rra => 4
  | .rlcB => 8
  | .rlcC => 8
  | .rlcD => 8
  | .rlcE => 8
  | .rlcH => 8
  | .rlcL => 8
  | .rlcAtHL => 16
  | .rlcA => 8
  | .rrcB => 8
  | .rrcC => 8
  | .rrcD => 8
  | .rrcE => 8
  | .rrcH => 8
  | .rrcL => 8
  | .rrcAtHL => 16
  | .rrcA => 8
  | .rlB => 8
  | .rlC => 8
  | .rlD => 8
  | .rlE => 8
  | .rlH => 8
  | .rlL => 8
  | .rlAtHL => 16
  | .rlA => 8
  | .rrB => 8
  | .rrC => 8
  | .rrD => 8
  | .rrE => 8
  | .rrH => 8
  | .rrL => 8
  | .rrAtHL => 16
  | .rrA => 8
  | .slaB => 8
  | .slaC => 8
  | .slaD => 8
  | .slaE => 8
  | .slaH => 8
  | .slaL => 8
  | .slaAtHL => 16
  | .slaA => 8
  | .sraB => 8
  | .sraC => 8
  | .sraD => 8
  | .sraE => 8
  | .sraH => 8
  | .sraL => 8
  | .sraAtHL => 16
  | .sraA => 8
  | .swapB => 8
  | .swapC => 8
  | .swapD => 8
  | .swapE => 8
  | .swapH => 8
  | .swapL => 8
  | .swapAtHL => 16
  | .swapA => 8
  | .srlB => 8
  | .srlC => 8
  | .srlD => 8
  | .srlE => 8
  | .srlH => 8
  | .srlL => 8
  | .srlAtHL => 16
  | .srlA => 8
  | .bit0B => 8
  | .bit0C => 8
  | .bit0D => 8
  | .bit0E => 8
  | .bit0H => 8
  | .bit0L => 8
  | .bit0AtHL => 12
  | .bit0A => 8
  | .bit1B => 8
  | .bit1C => 8
  | .bit1D => 8
  | .bit1E => 8
  | .bit1H => 8
  | .bit1L => 8
  | .bit1AtHL => 12
  | .bit1A => 8
  | .bit2B => 8
  | .bit2C => 8
  | .bit2D => 8
  | .bit2E => 8
  | .bit2H => 8
  | .bit2L => 8
  | .bit2AtHL => 12
  | .bit2A => 8
  | .bit3B => 8
  | .bit3C => 8
  | .bit3D => 8
  | .bit3E => 8
  | .bit3H => 8
  | .bit3L => 8
  | .bit3AtHL => 12
  | .bit3A => 8
  | .bit4B => 8
  | .bit4C => 8
  | .bit4D => 8
  | .bit4E => 8
  | .bit4H => 8
  | .bit4L => 8
  | .bit4AtHL => 12
  | .bit4A => 8
  | .bit5B => 8
  | .bit5C => 8
  | .bit5D => 8
  | .bit5E => 8
  | .bit5H => 8
  | .bit5L => 8
  | .bit5AtHL => 12
  | .bit5A => 8
  | .bit6B => 8
  | .bit6C => 8
  | .bit6D => 8
  | .bit6E => 8
  | .bit6H => 8
  | .bit6L => 8
  | .bit6AtHL => 12
  | .bit6A => 8
  | .bit7B => 8
  | .bit7C => 8
  | .bit7D => 8
  | .bit7E => 8
  | .bit7H => 8
  | .bit7L => 8
  | .bit7AtHL => 12
  | .bit7A => 8
  | .res0B => 8
  | .res0C => 8
  | .res0D => 8
  | .res0E => 8
  | .res0H => 8
  | .res0L => 8
  | .res0AtHL => 16
  | .res0A => 8
  | .res1B => 8
  | .res1C => 8
  | .res1D => 8
  | .res1E => 8
  | .res1H => 8
  | .res1L => 8
  | .res1AtHL => 16
  | .res1A => 8
  | .res2B => 8
  | .res2C => 8
  | .res2D => 8
  | .res2E => 8
  | .res2H => 8
  | .res2L => 8
  | .res2AtHL => 16
  | .res2A => 8
  | .res3B => 8
  | .res3C => 8
  | .res3D => 8
  | .res3E => 8
  | .res3H => 8
  | .res3L => 8
  | .res3AtHL => 16
  | .res3A => 8
  | .res4B => 8
  | .res4C => 8
  | .res4D => 8
  | .res4E => 8
  | .res4H => 8
  | .res4L => 8
  | .res4AtHL => 16
  | .res4A => 8
  | .res5B => 8
  | .res5C => 8
  | .res5D => 8
  | .res5E => 8
  | .res5H => 8
  | .res5L => 8
  | .res5AtHL => 16
  | .res5A => 8
  | .res6B => 8
  | .res6C => 8
  | .res6D => 8
  | .res6E => 8
  | .res6H => 8
  | .res6L => 8
  | .res6AtHL => 16
  | .res6A => 8
  | .res7B => 8
  | .res7C => 8
  | .res7D => 8
  | .res7E => 8
  | .res7H => 8
  | .res7L => 8
  | .res7AtHL => 16
  | .res7A => 8
  | .set0B => 8
  | .set0C => 8
  | .set0D => 8
  | .set0E => 8
  | .set0H => 8
  | .set0L => 8
  | .set0AtHL => 16
  | .set0A => 8
  | .set1B => 8
  | .set1C => 8
  | .set1D => 8
  | .set1E => 8
  | .set1H => 8
  | .set1L => 8
  | .set1AtHL => 16
  | .set1A => 8
  | .set2B => 8
  | .set2C => 8
  | .set2D => 8
  | .set2E => 8
  | .set2H => 8
  | .set2L => 8
  | .set2AtHL => 16
  | .set2A => 8
  | .set3B => 8
  | .set3C => 8
  | .set3D => 8
  | .set3E => 8
  | .set3H => 8
  | .set3L => 8
  | .set3AtHL => 16
  | .set3A => 8
  | .set4B => 8
  | .set4C => 8
  | .set4D => 8
  | .set4E => 8
  | .set4H => 8
  | .set4L => 8
  | .set4AtHL => 16
  | .set4A => 8
  | .set5B => 8
  | .set5C => 8
  | .set5D => 8
  | .set5E => 8
  | .set5H => 8
  | .set5L => 8
  | .set5AtHL => 16
  | .set5A => 8
  | .set6B => 8
  | .set6C => 8
  | .set6D => 8
  | .set6E => 8
  | .set6H => 8
  | .set6L => 8
  | .set6AtHL => 16
  | .set6A => 8
  | .set7B => 8
  | .set7C => 8
  | .set7D => 8
  | .set7E => 8
  | .set7H => 8
  | .set7L => 8
  | .set7AtHL => 16
  | .set7A => 8
  | .jr _ => 12
  | .jrNZ _ => if taken then 12 else 8
  | .jrZ _ => if taken then 12 else 8
  | .jrNC _ => if taken then 12 else 8
  | .jrC _ => if taken then 12 else 8
  | .retNZ => if taken then 20 else 8
  | .jpNZ _ => if taken then 16 else 12
  | .jp _ => 16
  | .callNZ _ => if taken then 24 else 12
  | .rst00 => 16
  | .retZ => if taken then 20 else 8
  | .ret => 16
  | .jpZ _ => if taken then 16 else 12
  | .callZ _ => if taken then 24 else 12
  | .call _ => 24
  | .rst08 => 16
  | .retNC => if taken then 20 else 8
  | .jpNC _ => if taken then 16 else 12
  | .callNC _ => if taken then 24 else 12
  | .rst10 => 16
  | .retC => if taken then 20 else 8
  | .reti => 16
  | .jpC _ => if taken then 16 else 12
  | .callC _ => if taken then 24 else 12
  | .rst18 => 16
  | .rst20 => 16
  | .jpHL => 4
  | .rst28 => 16
  | .rst30 => 16
  | .rst38 => 16
  | .nop => 4
  | .stop => 4
  | .halt => 4
  | .unrecognisedD3 => 4
  | .unrecognisedDB => 4
  | .unrecognisedDD => 4
  | .unrecognisedE3 => 4
  | .unrecognisedE4 => 4
  | .unrecognisedEB => 4
  | .unrecognisedEC => 4
  | .unrecognisedED => 4
  | .di => 4
  | .unrecognisedF4 => 4
  | .ei => 4
  | .unrecognisedFC => 4
  | .unrecognisedFD => 4

/-- The condition that a conditional transfer tests (R331, R333, R336, R338). -/
def Instr.condition (i : Instr) : Option Cond :=
  match i with
  | .jrNZ _ => some .nz
  | .jrZ _ => some .z
  | .jrNC _ => some .nc
  | .jrC _ => some .c
  | .retNZ => some .nz
  | .jpNZ _ => some .nz
  | .callNZ _ => some .nz
  | .retZ => some .z
  | .jpZ _ => some .z
  | .callZ _ => some .z
  | .retNC => some .nc
  | .jpNC _ => some .nc
  | .callNC _ => some .nc
  | .retC => some .c
  | .jpC _ => some .c
  | .callC _ => some .c
  | _ => none

end Sys2Proof
end

