-- ==== Sys2Proof/Safety.lean ====
section
/-! DEFINITION. The terms that claims use: a run without the fatal error, the machine's invariant, what passing time may
change, and the bytes that a step fetches. -/

namespace Sys2Proof.Machine

/-- No fatal error is latched: a claim of normal completion ends in such a state (R402). -/
abbrev State.Safe (s : State) : Prop := s.cpu.fault = none

/-- A legal ROM bank number: 1 on a base cartridge, low five bits not zero on MBC1, not zero on MBC3 (R44, R481). -/
def bankLegal (kind : CartKind) (bank : BitVec 7) : Bool :=
  match kind with
  | .romOnly => decide (bank = 1)
  | .mbc1 => decide (bank &&& 0x1F ≠ 0)
  | .mbc3 => decide (bank ≠ 0)
  | .mbc3Timer => decide (bank ≠ 0)

/-- Every RTC register lies under its mask (R46, R496). -/
def Rtc.masked (r : Rtc) : Bool := decide (∀ i : Fin 5, r.get i &&& ~~~(Rtc.mask i) = 0)

/-- What every step keeps. -/
structure State.Inv (s : State) : Prop where
  /-- F's low nibble is always zero (R35). -/
  f_low : s.cpu.f &&& 0x0F = 0
  /-- Every step costs a multiple of 4 cycles (R547). -/
  cyc_aligned : s.cpu.cyc % 4 = 0
  /-- At a latched fatal error PC stands one past the unrecognised byte (R400). -/
  fault_pc : ∀ opcode addr, s.cpu.fault = some (opcode, addr) → opcode ∈ unrecognisedBytes ∧ s.cpu.pc = addr + 1
  /-- The backing array is in canonical form, -/
  mem_wf : s.mem.wf = true
  /-- and holds no byte of the ROM addresses, which are never stored (R40, R83). -/
  mem_range : s.mem.within 0x8000 0x10000 = true
  /-- Cartridge RAM is in canonical form, -/
  ram_wf : s.cart.ram.wf = true
  /-- and has 32768 bytes (R45). -/
  ram_range : s.cart.ram.within 0 0x8000 = true
  /-- The ROM image is in canonical form. -/
  rom_wf : s.params.rom.wf = true
  /-- The ROM bank is a legal one (R44). -/
  bank : bankLegal s.params.cartKind s.cart.romBankNum = true
  /-- The reload delay is a number 0 to 4 (R43). -/
  delay : s.timer.reloadDelay ≤ 4
  /-- The edge detector remembers the present signal (R444). -/
  edge : s.timer.prevSig = s.timer.signal
  /-- The live RTC registers lie under their masks (R46). -/
  live_masked : s.cart.rtcLive.masked = true
  /-- The latched RTC registers lie under their masks (R46). -/
  latched_masked : s.cart.rtcLatched.masked = true
  /-- Only a timer cartridge maps an RTC register (R505). -/
  rtc_mapped : s.cart.rtcMapped = true → s.params.cartKind = .mbc3Timer
  /-- Less than one RTC second is accumulated (R500). -/
  acc : 0 < s.params.rtcCyclesPerTick → s.cart.rtcAcc < s.params.rtcCyclesPerTick

/-- Reset values that meet the invariant with given parameters: each register within what R38 to R46 say it can hold. -/
structure ResetValues.Legal (p : Params) (rv : ResetValues) : Prop where
  cyc_aligned : rv.cyc % 4 = 0
  delay : rv.timer.reloadDelay ≤ 4
  edge : rv.timer.prevSig = rv.timer.signal
  live_masked : rv.rtcLive.masked = true
  latched_masked : rv.rtcLatched.masked = true
  rtc_mapped : rv.rtcMapped = true → p.cartKind = .mbc3Timer
  acc : 0 < p.rtcCyclesPerTick → rv.rtcAcc < p.rtcCyclesPerTick

/-- Initial memories in canonical form, of the bytes that the backing array and cartridge RAM store (R40, R45). -/
structure InitMem.Legal (init : InitMem) : Prop where
  mem_wf : init.mem.wf = true
  mem_range : init.mem.within 0x8000 0x10000 = true
  ram_wf : init.ram.wf = true
  ram_range : init.ram.within 0 0x8000 = true

/-- What reads and passing time leave alone, between a state and a later one: every byte of memory but IF; in IF every bit but
the Timer's (and with open collaborators VBlank's and LCDSTAT's), which may only become set; cartridge RAM and control; TMA and
TAC; the parameters (R94, R446, R500). -/
structure MemoryKept (s t : State) : Prop where
  params : t.params = s.params
  bytes : ∀ k, k ≠ 0xFF0F → t.mem.read k = s.mem.read k
  if_high : ∀ i, 3 ≤ i → t.ifByte.getLsbD i = s.ifByte.getLsbD i
  if_kept : ∀ i, s.ifByte.getLsbD i = true → t.ifByte.getLsbD i = true
  if_stub : s.params.ext = .stub → ∀ i, i ≠ 2 → t.ifByte.getLsbD i = s.ifByte.getLsbD i
  ram : t.cart.ram = s.cart.ram
  control : t.cart.romBankNum = s.cart.romBankNum ∧ t.cart.ramEnabled = s.cart.ramEnabled ∧ t.cart.ramBank = s.cart.ramBank ∧
    t.cart.rtcMapped = s.cart.rtcMapped ∧ t.cart.rtcSel = s.cart.rtcSel ∧ t.cart.latchArmed = s.cart.latchArmed ∧
    t.cart.rtcLatched = s.cart.rtcLatched
  tma : t.timer.tma = s.timer.tma
  tac : t.timer.tac = s.timer.tac

/-- The next `n` bytes of the instruction stream, and the state after their fetches (R99). -/
def fetchBytes : Nat → State → List Byte × State
  | 0, s => ([], s)
  | n + 1, s =>
    let (b, s1) := fetch8 s
    let (bs, s2) := fetchBytes n s1
    (b :: bs, s2)

/-- The bytes of the instruction at PC, as many as its first byte says (R130), and the state after their fetches. -/
def fetchedBytes (s : State) : List Byte × State := fetchBytes (plan (fetch8 s).1).length s

end Sys2Proof.Machine

/-! The index of each name in its table (R134 to R139), and an opcode byte from its fields (R131). -/

namespace Sys2Proof

/-- The index of a register in `r8` (R134). -/
def Reg8.code (r : Reg8) : Nat :=
  match r with
  | .b => 0
  | .c => 1
  | .d => 2
  | .e => 3
  | .h => 4
  | .l => 5
  | .a => 7

/-- The index of an operand location in `r8`: 6 is (HL) (R134). -/
def Loc8.code (x : Loc8) : Nat :=
  match x with
  | .reg r => r.code
  | .atHL => 6

/-- The index in `rp` (R135). -/
def Pair.code (p : Pair) : Nat :=
  match p with
  | .bc => 0
  | .de => 1
  | .hl => 2
  | .sp => 3

/-- The index in `rp2` (R136). -/
def StackPair.code (p : StackPair) : Nat :=
  match p with
  | .bc => 0
  | .de => 1
  | .hl => 2
  | .af => 3

/-- The index in `cc` (R137). -/
def Cond.code (cc : Cond) : Nat :=
  match cc with
  | .nz => 0
  | .z => 1
  | .nc => 2
  | .c => 3

/-- The index in `alu` (R138). -/
def AluOp.code (op : AluOp) : Nat :=
  match op with
  | .add => 0
  | .adc => 1
  | .sub => 2
  | .sbc => 3
  | .and => 4
  | .xor => 5
  | .or => 6
  | .cp => 7

/-- The index in `rot` (R139). -/
def RotOp.code (op : RotOp) : Nat :=
  match op with
  | .rlc => 0
  | .rrc => 1
  | .rl => 2
  | .rr => 3
  | .sla => 4
  | .sra => 5
  | .swap => 6
  | .srl => 7

/-- The opcode byte with fields x, y, z (R131). -/
def opByte (x y z : Nat) : Byte := BitVec.ofNat 8 (64 * x + 8 * y + z)

/-- The first bytes of two-byte instructions (R130, R140, R143). -/
def twoByteOpcodes : List Byte :=
  [0x06, 0x0E, 0x16, 0x1E, 0x26, 0x2E, 0x36, 0x3E, 0x18, 0x20, 0x28, 0x30, 0x38, 0xE0, 0xF0, 0xE8, 0xF8] ++
  [0xC6, 0xCE, 0xD6, 0xDE, 0xE6, 0xEE, 0xF6, 0xFE, 0xCB]

/-- The first bytes of three-byte instructions (R130, R140, R143). -/
def threeByteOpcodes : List Byte :=
  [0x01, 0x11, 0x21, 0x31, 0x08, 0xC2, 0xCA, 0xD2, 0xDA, 0xC3, 0xC4, 0xCC, 0xD4, 0xDC, 0xCD, 0xEA, 0xFA]

/-- The length of the instruction that a first byte begins (R130). -/
def lengthOf (b0 : Byte) : Nat := if b0 ∈ twoByteOpcodes then 2 else if b0 ∈ threeByteOpcodes then 3 else 1

end Sys2Proof

/-! What each instruction may write, read off its opcode fields by the tables of R140 to R144 and the instruction rules. The
meanings do not use these: the frame statements hold the meanings against them. -/

namespace Sys2Proof.Machine

/-- The fields of an instruction's opcode byte, of the second byte behind 0xCB (R131). -/
structure Fields where
  prefixed : Bool
  x : Fin 4
  y : Fin 8
  z : Fin 8
deriving DecidableEq, Repr

/-- The fields of an instruction (R131). -/
def fieldsOf (i : Instr) : Fields :=
  match encode i with
  | [0xCB, b] => ⟨true, fieldX b, fieldY b, fieldZ b⟩
  | b :: _ => ⟨false, fieldX b, fieldY b, fieldZ b⟩
  | [] => ⟨false, 0, 0, 0⟩

/-- The 8-bit immediate of an instruction that has one (R132). -/
def immByte (i : Instr) : Byte := (encode i).getD 1 0

/-- The 16-bit immediate of an instruction that has one (R132). -/
def immWord (i : Instr) : Word := joinBytes ((encode i).getD 2 0) ((encode i).getD 1 0)

/-- The registers of location `r8[i]` (R134). -/
def locRegs (i : Fin 8) : List Reg8 :=
  match loc8Of i with
  | .reg r => [r]
  | .atHL => []

/-- The registers of the pair with index p = y >> 1, `rp` and `rp2` alike: SP and F are no `Reg8`, AF gives A (R135, R136). -/
def pairRegs (stack : Bool) (y : Fin 8) : List Reg8 :=
  match y.val / 2 with
  | 0 => [.b, .c]
  | 1 => [.d, .e]
  | 2 => [.h, .l]
  | _ => if stack then [.a] else []

/-- The 8-bit registers that an instruction may write. -/
def regsWritten (i : Instr) : List Reg8 :=
  let g := fieldsOf i
  let q := g.y.val % 2
  if g.prefixed then (if g.x = 1 then [] else locRegs g.z)                                                   -- BIT writes none
  else
    match g.x with
    | 0 =>
      match g.z with
      | 1 => if q = 0 then pairRegs false g.y else [.h, .l]                                                   -- LD rr,nn; ADD HL,rr
      | 2 => (if q = 1 then [.a] else []) ++ (if 4 ≤ g.y.val then [.h, .l] else [])                           -- LD A,(…); HL±
      | 3 => pairRegs false g.y                                                                               -- INC rr, DEC rr
      | 4 => locRegs g.y                                                                                      -- INC
      | 5 => locRegs g.y                                                                                      -- DEC
      | 6 => locRegs g.y                                                                                      -- LD r,n
      | 7 => if g.y.val ≤ 5 then [.a] else []                                                                 -- not SCF, CCF
      | _ => []
    | 1 => if g.y = 6 ∧ g.z = 6 then [] else locRegs g.y                                                      -- LD r,r′; HALT
    | 2 => if g.y = 7 then [] else [.a]                                                                       -- CP writes none
    | 3 =>
      match g.z with
      | 0 => if g.y = 6 then [.a] else if g.y = 7 then [.h, .l] else []                                       -- LDH A,(n); LD HL,SP+e
      | 1 => if q = 0 then pairRegs true g.y else []                                                          -- POP
      | 2 => if g.y = 6 ∨ g.y = 7 then [.a] else []                                                           -- LD A,(C); LD A,(nn)
      | 6 => if g.y = 7 then [] else [.a]                                                                     -- alu A,n
      | _ => []

/-- The flags that an instruction may write, as a mask of F (R219 and each rule). -/
def flagsWritten (i : Instr) : Byte :=
  let g := fieldsOf i
  if g.prefixed then (if g.x = 0 then 0xF0 else if g.x = 1 then 0xE0 else 0x00)                               -- BIT keeps C
  else
    match g.x with
    | 0 =>
      match g.z with
      | 1 => if g.y.val % 2 = 1 then 0x70 else 0x00                                                           -- ADD HL,rr keeps Z
      | 4 => 0xE0                                                                                             -- INC keeps C
      | 5 => 0xE0                                                                                             -- DEC keeps C
      | 7 =>
        match g.y with
        | 4 => 0xB0                                                                                           -- DAA keeps N
        | 5 => 0x60                                                                                           -- CPL keeps Z, C
        | 6 => 0x70                                                                                           -- SCF keeps Z
        | 7 => 0x70                                                                                           -- CCF keeps Z
        | _ => 0xF0
      | _ => 0x00
    | 1 => 0x00
    | 2 => 0xF0
    | 3 =>
      match g.z with
      | 0 => if g.y = 5 ∨ g.y = 7 then 0xF0 else 0x00                                                         -- ADD SP,e; LD HL,SP+e
      | 1 => if g.y = 6 then 0xF0 else 0x00                                                                   -- POP AF
      | 6 => 0xF0
      | _ => 0x00

/-- Whether an instruction may write SP (R32). -/
def writesSp (i : Instr) : Bool :=
  let g := fieldsOf i
  if g.prefixed then false
  else
    match g.x with
    | 0 => (g.z = 1 && g.y = 6) || (g.z = 3 && 6 ≤ g.y.val)                                                   -- LD SP,nn; INC, DEC SP
    | 1 => false
    | 2 => false
    | 3 =>
      match g.z with
      | 0 => g.y.val ≤ 3 || g.y = 5                                                                           -- RET cc; ADD SP,e
      | 1 => g.y ≠ 5                                                                                          -- not JP HL
      | 4 => g.y.val ≤ 3                                                                                      -- CALL cc
      | 5 => g.y.val % 2 = 0 || g.y = 1                                                                       -- PUSH, CALL
      | 7 => true                                                                                             -- RST
      | _ => false

/-- Whether the condition of a conditional transfer holds; no other instruction has one (R137). -/
def taken (i : Instr) (s : State) : Bool :=
  match i.condition with
  | some cc => condHolds cc s
  | none => false

/-- The two addresses that a push writes (R204). -/
def pushAddrs (s : State) : List Word := [s.cpu.sp - 2, s.cpu.sp - 2 + 1]

/-- The addresses that an instruction stores to, computed in the state in which its own accesses begin. -/
def storeAddrs (i : Instr) (s : State) : List Word :=
  let g := fieldsOf i
  if g.prefixed then (if g.z = 6 ∧ g.x ≠ 1 then [s.hl] else [])                                               -- BIT stores nothing
  else
    match g.x with
    | 0 =>
      match g.z with
      | 0 => if g.y = 1 then [immWord i, immWord i + 1] else []                                               -- LD (nn),SP
      | 2 =>
        match g.y with
        | 0 => [addrOf .bc s]
        | 2 => [addrOf .de s]
        | 4 => [addrOf .hlInc s]
        | 6 => [addrOf .hlDec s]
        | _ => []
      | 4 => if g.y = 6 then [s.hl] else []                                                                   -- INC (HL)
      | 5 => if g.y = 6 then [s.hl] else []                                                                   -- DEC (HL)
      | 6 => if g.y = 6 then [s.hl] else []                                                                   -- LD (HL),n
      | _ => []
    | 1 => if g.y = 6 ∧ g.z ≠ 6 then [s.hl] else []                                                           -- LD (HL),r
    | 2 => []
    | 3 =>
      match g.z with
      | 0 => if g.y = 4 then [highPage (immByte i)] else []                                                   -- LDH (n),A
      | 2 => if g.y = 4 then [addrOf .highC s] else if g.y = 5 then [immWord i] else []                       -- LD (C),A; LD (nn),A
      | 4 => if taken i s then pushAddrs s else []                                                            -- CALL cc
      | 5 => if g.y.val % 2 = 0 ∨ g.y = 1 then pushAddrs s else []                                            -- PUSH, CALL
      | 7 => pushAddrs s                                                                                      -- RST
      | _ => []

/-- The accumulator and the four flags written, all else as it is. -/
def State.withAF (a : Byte) (z n h c : Bool) (s : State) : State :=
  { s with cpu := { s.cpu with a := a, f := packFlags z n h c } }

/-- Two decimal digits as a packed BCD byte. -/
def bcd (n : Nat) : Byte := BitVec.ofNat 8 (16 * (n / 10) + n % 10)

/-- The seconds that RTC registers in range stand for, of 512 days (R496). -/
def Rtc.total (r : Rtc) : Nat := r.seconds.toNat + 60 * r.minutes.toNat + 3600 * r.hours.toNat + 86400 * r.days

/-- Seconds below 60, minutes below 60, hours below 24 (R496). -/
def Rtc.inRange (r : Rtc) : Prop := r.seconds.toNat < 60 ∧ r.minutes.toNat < 60 ∧ r.hours.toNat < 24

end Sys2Proof.Machine
end

