-- ==== Sys2Proof/Certificates/Slice0/Obligations.lean ====
section
/-! DEFINITION. The statements about the model for the provers, and OBLIGATIONS.json lists them. `exec i s` is read in the state
`s` that the fetches of `i` leave: PC stands after the instruction, and the fetch cycles are charged. A name such as
`Instr.alu op x` stands for every constructor of its family: Sys2Proof/Decode.lean lists them. -/

open Sys2Proof Sys2Proof.Machine

/-! Encoding. -/

/-- Words written out from the tables of R140 to R144 decode to the instructions they stand for: one or more of each family. -/
def Obligations.SampleWordsDecode : Prop :=
  decode [0x3E, 0x3C] = .ok (.ldAN 0x3C, []) ∧ decode [0x41] = .ok (.ldBC, []) ∧ decode [0x77] = .ok (.ldAtHLA, []) ∧
  decode [0x22] = .ok (.ldAtHLIncA, []) ∧ decode [0xE0, 0x0F] = .ok (.ldhAtNA 0x0F, []) ∧
  decode [0x31, 0xFE, 0xFF] = .ok (.ldSPNN 0xFFFE, []) ∧ decode [0xF5] = .ok (.pushAF, []) ∧
  decode [0x08, 0x00, 0xC1] = .ok (.ldAtNNSP 0xC100, []) ∧ decode [0xC6, 0xC6] = .ok (.addAN 0xC6, []) ∧
  decode [0x9E] = .ok (.sbcAAtHL, []) ∧ decode [0x34] = .ok (.incAtHL, []) ∧ decode [0x27] = .ok (.daa, []) ∧
  decode [0x29] = .ok (.addHLHL, []) ∧ decode [0xE8, 0x02] = .ok (.addSPE 0x02, []) ∧ decode [0x17] = .ok (.rla, []) ∧
  decode [0xCB, 0x37] = .ok (.swapA, []) ∧ decode [0xCB, 0x7E] = .ok (.bit7AtHL, []) ∧
  decode [0xCB, 0xFE, 0x00] = .ok (.set7AtHL, [0x00]) ∧ decode [0x18, 0xFE] = .ok (.jr 0xFE, []) ∧
  decode [0xC3, 0x50, 0x01] = .ok (.jp 0x0150, []) ∧ decode [0xCD, 0x00, 0x02] = .ok (.call 0x0200, []) ∧
  decode [0xEF] = .ok (.rst28, []) ∧ decode [0xD9] = .ok (.reti, []) ∧ decode [0x76] = .ok (.halt, []) ∧
  decode [0xFB] = .ok (.ei, []) ∧ decode [0xDD] = .ok (.unrecognisedDD, []) ∧
  decode [0xC3, 0x50] = .error (.truncated 0xC3)

/-- Decoding the bytes of any instruction, with every operand at every value and any bytes behind, gives the instruction back. -/
def Obligations.DecodeEncodeAgree : Prop :=
  ∀ (i : Instr) (rest : List Byte), decode (encode i ++ rest) = .ok (i, rest)

/-- No other bytes decode to an instruction: what the decoder accepts is an encoding. -/
def Obligations.EncodeDecodeAgree : Prop :=
  ∀ (bytes : List Byte) (i : Instr) (rest : List Byte), decode bytes = .ok (i, rest) → bytes = encode i ++ rest

/-- The decoder is total, and the first byte alone fixes the length: every sequence long enough decodes, every shorter one is
refused. -/
def Obligations.FirstByteFixesLength : Prop :=
  (∀ (b0 : Byte) (rest : List Byte), lengthOf b0 ≤ rest.length + 1 →
    ∃ i, decode (b0 :: rest) = .ok (i, rest.drop (lengthOf b0 - 1)) ∧ (encode i).length = lengthOf b0) ∧
  (∀ (b0 : Byte) (rest : List Byte), rest.length + 1 < lengthOf b0 → decode (b0 :: rest) = .error (.truncated b0)) ∧
  decode [] = .error .noBytes

/-- Exactly the eleven bytes of R145 select no instruction of the ISA; behind 0xCB every byte selects one. -/
def Obligations.UnrecognisedBytesExactly : Prop :=
  (∀ i : Instr, i.wellFormed = false ↔ ∃ b ∈ unrecognisedBytes, encode i = [b]) ∧
  (∀ (b : Byte) (rest : List Byte),
    (∃ i rest', decode (b :: rest) = .ok (i, rest') ∧ i.wellFormed = false) ↔ b ∈ unrecognisedBytes) ∧
  (∀ b1 : Byte, ∃ i, decode [0xCB, b1] = .ok (i, []) ∧ i.wellFormed = true)

/-! The step. -/

/-- A step runs the instruction that the bytes at PC decode to, in the state after their fetches (PC past them, 4 cycles each),
then the interrupt check unless the fatal error is latched. The bytes at PC always decode. That all fetches come before the
instruction's own accesses is log 13 (DEDUCED); that what the collaborators ask for between steps comes before the fetch, and
with the stub is nothing, is log 7 (DESIGN CHOICE, R404). -/
def Obligations.StepRunsDecodedInstruction : Prop :=
  (∀ (s : State) (i : Instr), s.cpu.fault = none → s.cpu.halted = false →
    decode (fetchedBytes (betweenSteps s)).1 = .ok (i, []) →
    step s = finishStep (exec i (fetchedBytes (betweenSteps s)).2) ∧
    (fetchedBytes (betweenSteps s)).2.cpu =
      { s.cpu with pc := s.cpu.pc + BitVec.ofNat 16 (encode i).length, cyc := s.cpu.cyc + 4 * (encode i).length }) ∧
  (∀ s : State, ∃ i, decode (fetchedBytes s).1 = .ok (i, [])) ∧
  (∀ t : State, t.cpu.fault = none → finishStep (.next t) = .next (interruptCheck t)) ∧
  (∀ t : State, t.cpu.fault ≠ none → finishStep (.next t) = .next t) ∧
  (∀ s : State, s.params.ext = .stub → betweenSteps s = s)

/-- A step at an unrecognised byte latches the byte and the address it was fetched from, after the fetch and with nothing else
done (no interrupt check); from then on no step exists. That the error is a next state with a latch is D28 (log 10). -/
def Obligations.FatalErrorLatches : Prop :=
  ∀ s : State, s.cpu.fault = none → s.cpu.halted = false → (fetch8 (betweenSteps s)).1 ∈ unrecognisedBytes →
    step s = .next (raiseFatal (fetch8 (betweenSteps s)).1 s.cpu.pc (fetch8 (betweenSteps s)).2) ∧
    (fetch8 (betweenSteps s)).2.cpu = { s.cpu with pc := s.cpu.pc + 1, cyc := s.cpu.cyc + 4 } ∧
    step (raiseFatal (fetch8 (betweenSteps s)).1 s.cpu.pc (fetch8 (betweenSteps s)).2) =
      .fault (.fatal (fetch8 (betweenSteps s)).1 s.cpu.pc)

/-- A latched error stops the machine: the step is the fault and no next state (R402), and a reset with any parameters clears it. That
every other machine takes a step, one at an unrecognised byte too, is D28 (DESIGN CHOICE, log 10). -/
def Obligations.StuckAfterFatalError : Prop :=
  (∀ (s : State) (opcode : Byte) (addr : Word), s.cpu.fault = some (opcode, addr) → step s = .fault (.fatal opcode addr)) ∧
  (∀ (s t : State), step s = .next t → s.cpu.fault = none) ∧
  (∀ (s : State), s.cpu.fault = none → ∃ t, step s = .next t) ∧
  (∀ (p : Params) (rv : ResetValues) (init : InitMem), (State.resetWith p rv init).cpu.fault = none)

/-- A halted CPU spends one idle tick of 4 cycles, fetches nothing, and runs the interrupt check (the 4 cycles are D4). -/
def Obligations.IdleStepWhileHalted : Prop :=
  ∀ s : State, s.cpu.fault = none → s.cpu.halted = true →
    step s = .next (interruptCheck (tick 4 (betweenSteps s))) ∧
    (tick 4 (betweenSteps s)).cpu = { s.cpu with cyc := s.cpu.cyc + 4 }

/-- Each of the 511 constructors answers a next state in every state. The 500 instructions of the ISA complete and latch nothing.
The eleven unrecognised bytes do not complete: their next state is the machine with the fatal error latched, their byte and the
address before PC in it; that this is a next state is D28 (DESIGN CHOICE, log 10). -/
def Obligations.EveryInstructionCompletes : Prop :=
  ∀ (i : Instr) (s : State), ∃ t, exec i s = .next t ∧
    (i.wellFormed = true → t.cpu.fault = s.cpu.fault) ∧
    (i.wellFormed = false → ∃ b, encode i = [b] ∧ t = raiseFatal b (s.cpu.pc - 1) s)

/-! Invariants and whole-machine rules. -/

/-- The invariant holds before a step, so it holds after: memory canonical, F's low nibble zero, a legal ROM bank, RTC registers
under their masks, the edge detector in step, cycles a multiple of 4, and the rest of `State.Inv`. -/
def Obligations.StepKeepsInvariant : Prop :=
  ∀ s t : State, s.Inv → step s = .next t → t.Inv

/-- The state after reset meets the invariant and holds the table of R50: every register, with the values of D12 (log 1), memory
and cartridge RAM with nothing written and the RTC registers zero (D40, log 2, log 3), no fatal error (D28). The wall-clock stamp
is the model's choice (log 9). All of these are the defaults of the parameters of R7: with other parameters, reset leaves the
values that they give, bank 1, and no fatal error. -/
def Obligations.ResetMeetsInvariant : Prop :=
  (∀ (p : Params) (rv : ResetValues) (init : InitMem) (t : State), t = State.resetWith p rv init →
    t.cpu = ⟨rv.a, rv.f &&& 0xF0, rv.b, rv.c, rv.d, rv.e, rv.h, rv.l, rv.sp, rv.pc, rv.ime, rv.halted, rv.cyc, none⟩ ∧
    t.timer = rv.timer ∧ t.cart = ⟨1, rv.ramEnabled, rv.ramBank, rv.rtcMapped, rv.rtcSel, init.ram, rv.rtcLive, rv.rtcLatched,
      rv.latchArmed, rv.rtcAcc, rv.rtcStamp⟩ ∧ t.params = p ∧
    (∀ k, k ≠ 0xFF0F → k ≠ 0xFFFF → t.mem.read k = init.mem.read k) ∧
    (init.mem.wf = true → t.ifByte = rv.ifByte ∧ t.ieByte = rv.ieByte)) ∧
  State.reset = State.resetWith Params.defaults ResetValues.defaults InitMem.zero ∧
  State.reset.Inv ∧ State.reset.af = 0x01B0 ∧ State.reset.pair .bc = 0x0013 ∧ State.reset.pair .de = 0x00D8 ∧
  State.reset.pair .hl = 0x014D ∧ State.reset.cpu.sp = 0xFFFE ∧ State.reset.cpu.pc = 0x0100 ∧
  State.reset.cpu.ime = false ∧ State.reset.cpu.halted = false ∧ State.reset.cpu.cyc = 0 ∧ State.reset.cpu.fault = none ∧
  State.reset.ifByte = 0x00 ∧ State.reset.ieByte = 0x00 ∧ State.reset.timer.counter = 0x0000 ∧
  State.reset.timer.tima = 0x00 ∧ State.reset.timer.tma = 0x00 ∧ State.reset.timer.tac = 0x00 ∧
  State.reset.timer.prevSig = false ∧ State.reset.timer.reloadDelay = 0 ∧
  State.reset.cart.romBankNum = 1 ∧ State.reset.cart.ramEnabled = false ∧ State.reset.cart.ramBank = 0 ∧
  State.reset.cart.rtcMapped = false ∧ State.reset.cart.rtcSel = 0 ∧ State.reset.cart.latchArmed = false ∧
  State.reset.cart.rtcAcc = 0 ∧ State.reset.cart.rtcLive = ⟨0, 0, 0, 0, 0⟩ ∧ State.reset.cart.rtcLatched = ⟨0, 0, 0, 0, 0⟩ ∧
  State.reset.cart.rtcStamp = 0 ∧ State.reset.cart.ram = [] ∧ State.reset.mem = []

/-- A reset with any ROM bytes loaded and any legal parameters meets the invariant, its kind is the header's, its image reads as
those bytes, and restoring any save block keeps the invariant. -/
def Obligations.LaunchMeetsInvariant : Prop :=
  (∀ (bytes : List Byte) (mode : RtcMode) (period : Nat) (ext : ExtMode) (rv : ResetValues) (init : InitMem) (p : Params),
    p = ⟨Rom.ofBytes bytes, if bytes.length < 0x0148 then .romOnly else kindOfCode (bytes.getD 0x0147 0), mode, period, ext⟩ →
    rv.Legal p → init.Legal → (State.launch (Rom.ofBytes bytes) mode period ext rv init).Inv ∧
      (State.launch (Rom.ofBytes bytes) mode period ext rv init).params = p) ∧
  (∀ (p : Params) (rv : ResetValues) (init : InitMem), p.rom.wf = true → rv.Legal p → init.Legal →
    (State.resetWith p rv init).Inv) ∧
  (∀ (bytes : List Byte) (k : Nat), (Rom.ofBytes bytes).byte k = bytes[k]?) ∧
  (∀ (block : List Byte) (s : State), s.Inv → (loadSRAM block s).Inv)

/-- Saving and loading on an MBC3 cartridge reproduces the RAM bytes, and on a timer cartridge the RTC registers, their latched
copies and the timestamp too; a block of any other length is rejected (the layout is D29, log 18). -/
def Obligations.SaveBlockRoundTrip : Prop :=
  (∀ s t : State, s.Inv → t.Inv → hasRam s.params.cartKind = true → t.params.cartKind = s.params.cartKind →
    (loadSRAM (saveSRAM s) t).cart.ram = s.cart.ram ∧
    (s.params.cartKind = .mbc3Timer → (loadSRAM (saveSRAM s) t).cart.rtcLive = s.cart.rtcLive ∧
      (loadSRAM (saveSRAM s) t).cart.rtcLatched = s.cart.rtcLatched ∧
      (loadSRAM (saveSRAM s) t).cart.rtcStamp = s.cart.rtcStamp)) ∧
  (∀ (block : List Byte) (s : State), block.length ≠ 32768 → block.length ≠ 32816 → loadSRAM block s = s)

/-- No write and no step changes a ROM byte or the cartridge kind; a base cartridge ignores every write to 0x0000 to 0x7FFF. -/
def Obligations.RomNeverChanges : Prop :=
  (∀ (s : State) (a : Word) (v : Byte), s.params.cartKind = .romOnly → a.toNat < 0x8000 → routeWrite a v s = s) ∧
  (∀ (s : State) (a : Word) (v : Byte), (routeWrite a v s).params = s.params) ∧
  (∀ s t : State, step s = .next t → t.params = s.params)

/-- Every write to F stores bits 7 to 4 only: no instruction and no step makes the low nibble other than zero; POP AF masks what
it loads, and the other pairs are unmasked. -/
def Obligations.FlagLowNibbleStaysZero : Prop :=
  (∀ (i : Instr) (s t : State), s.cpu.f &&& 0x0F = 0 → exec i s = .next t → t.cpu.f &&& 0x0F = 0) ∧
  (∀ s t : State, s.cpu.f &&& 0x0F = 0 → step s = .next t → t.cpu.f &&& 0x0F = 0) ∧
  (∀ (v : Byte) (s : State), (s.setF v).cpu.f = v &&& 0xF0) ∧
  (∀ (v : Word) (s : State), (s.setAf v).af = v &&& 0xFFF0) ∧
  (∀ (p : Pair) (v : Word) (s : State), (s.setPair p v).pair p = v) ∧
  (∀ (v : Word) (s : State), (s.setPc v).cpu.pc = v) ∧
  (∀ s : State, ∃ t, exec .popAF s = .next t ∧ t.af = (pop16 s).1 &&& 0xFFF0)

/-- Among the instructions, IME is written by EI, RETI and DI only and `halted` by HALT only (that EI acts at once is D6). -/
def Obligations.ControlBitsChangeOnlyBy : Prop :=
  ∀ (i : Instr) (s : State), ∃ t, exec i s = .next t ∧
    t.cpu.ime = (if i = .ei ∨ i = .reti then true else if i = .di then false else s.cpu.ime) ∧
    t.cpu.halted = (if i = .halt then true else s.cpu.halted)

/-- Every instruction's ticks and accesses add up to the cycles of the opcode table, taken or not (the internal ticks are D10). -/
def Obligations.CyclesMatchOpcodeTable : Prop :=
  ∀ (i : Instr) (s : State), ∃ t, exec i s = .next t ∧
    t.cpu.cyc + 4 * (encode i).length = s.cpu.cyc + i.cycles (taken i s)

/-- Every step costs a multiple of 4 cycles, at least 4 and at most 40 (the counts rest on D10, D3, D4). -/
def Obligations.StepCostBounds : Prop :=
  ∀ s t : State, step s = .next t → ∃ n, t.cpu.cyc = s.cpu.cyc + 4 * n ∧ 1 ≤ n ∧ n ≤ 10

/-! Registers. -/

/-- The pairs are views of the eight registers: writing either shows in the other, and a register write leaves the other
registers alone. Z, N, H, C are bits 7, 6, 5, 4 of F, and the conditions read Z and C. Which half of BC, DE and HL is high is
general knowledge (R31, log 15). -/
def Obligations.RegistersPairsAndFlags : Prop :=
  (∀ (r x : Reg8) (v : Byte) (s : State), (s.setReg8 r v).reg8 x = if x = r then v else s.reg8 x) ∧
  (∀ (r : Reg8) (v : Byte) (s : State), (s.setReg8 r v).cpu.f = s.cpu.f ∧ (s.setReg8 r v).cpu.sp = s.cpu.sp ∧
    (s.setReg8 r v).cpu.pc = s.cpu.pc) ∧
  (∀ (v : Byte) (s : State), hiByte (s.setReg8 .a v).af = v ∧ loByte (s.setReg8 .a v).af = s.cpu.f) ∧
  (∀ (v : Word) (s : State), (s.setAf v).cpu.a = hiByte v ∧ (s.setAf v).cpu.f = loByte v &&& 0xF0) ∧
  (∀ s : State, s.pair .bc = joinBytes (s.reg8 .b) (s.reg8 .c) ∧ s.pair .de = joinBytes (s.reg8 .d) (s.reg8 .e) ∧
    s.pair .hl = joinBytes (s.reg8 .h) (s.reg8 .l) ∧ s.pair .sp = s.cpu.sp) ∧
  (∀ (v : Word) (s : State), (s.setPair .bc v).cpu = { s.cpu with b := hiByte v, c := loByte v } ∧
    (s.setPair .de v).cpu = { s.cpu with d := hiByte v, e := loByte v } ∧
    (s.setPair .hl v).cpu = { s.cpu with h := hiByte v, l := loByte v } ∧ (s.setPair .sp v).cpu = { s.cpu with sp := v }) ∧
  (∀ hi lo : Byte, (joinBytes hi lo).toNat = 256 * hi.toNat + lo.toNat) ∧
  (∀ (z n h c : Bool) (s : State), (s.setFlags z n h c).flagZ = z ∧ (s.setFlags z n h c).flagN = n ∧
    (s.setFlags z n h c).flagH = h ∧ (s.setFlags z n h c).flagC = c) ∧
  (∀ z n h c : Bool, (packFlags z n h c).toNat = 128 * z.toNat + 64 * n.toNat + 32 * h.toNat + 16 * c.toNat) ∧
  (∀ s : State, condHolds .nz s = !s.flagZ ∧ condHolds .z s = s.flagZ ∧ condHolds .nc s = !s.flagC ∧
    condHolds .c s = s.flagC)

/-! The address decoder. -/

/-- 0xE000 to 0xFDFF is work RAM at the address minus 0x2000: a read and a write go to that byte, whichever of the two addresses
is used, and work RAM from 0xDE00 on has no echo. -/
def Obligations.EchoIsWorkRam : Prop :=
  (∀ (s : State) (a : Word), 0xE000 ≤ a.toNat → a.toNat ≤ 0xFDFF →
    routeRead a s = (s.mem.read (a.toNat - 0x2000), s) ∧ routeRead (a - 0x2000) s = routeRead a s) ∧
  (∀ (s : State) (a : Word) (v : Byte), 0xE000 ≤ a.toNat → a.toNat ≤ 0xFDFF →
    routeWrite a v s = { s with mem := s.mem.write (a.toNat - 0x2000) v } ∧ routeWrite (a - 0x2000) v s = routeWrite a v s) ∧
  (∀ (s : State) (a e : Word) (v : Byte), 0xDE00 ≤ a.toNat → a.toNat ≤ 0xDFFF → 0xE000 ≤ e.toNat → e.toNat ≤ 0xFDFF →
    (routeRead a (routeWrite e v s)).1 = (routeRead a s).1)

/-- A read after a routed write: the byte of the backing array or of cartridge RAM behind the address reads as written, and no
write to such a byte changes what an address with another byte behind it reads. -/
def Obligations.ReadAfterWrite : Prop :=
  (∀ (s : State) (a : Word) (v : Byte) (k : Nat), s.mem.wf = true → backing a s = .mem k →
    (routeRead a (routeWrite a v s)).1 = v) ∧
  (∀ (s : State) (a : Word) (v : Byte) (off : Nat), s.cart.ram.wf = true → backing a s = .ram off →
    (routeRead a (routeWrite a v s)).1 = v) ∧
  (∀ (s : State) (a b : Word) (v : Byte) (k : Nat), backing a s = .mem k → backing b s ≠ .mem k →
    (routeRead b (routeWrite a v s)).1 = (routeRead b s).1) ∧
  (∀ (s : State) (a b : Word) (v : Byte) (off : Nat), backing a s = .ram off → backing b s ≠ .ram off →
    (routeRead b (routeWrite a v s)).1 = (routeRead b s).1)

/-- The address map where no device stands: the ROM banks read as the image's bytes for every kind (`romBankNum` at 0x4000 to
0x7FFF); work RAM and the ranges of R89 and R93 are the backing array at the address itself, as is 0xA000 to 0xBFFF on a
cartridge without RAM (D18) and the collaborator ports with the stub (D19); with open collaborators a port write changes no
state of this hardware. -/
def Obligations.AddressMap : Prop :=
  (∀ (s : State) (a : Word) (v : Byte), a.toNat ≤ 0x3FFF → s.params.rom.byte a.toNat = some v → routeRead a s = (v, s)) ∧
  (∀ (s : State) (a : Word) (v : Byte), 0x4000 ≤ a.toNat → a.toNat ≤ 0x7FFF →
    s.params.rom.byte (s.cart.romBankNum.toNat * 0x4000 + (a.toNat - 0x4000)) = some v → routeRead a s = (v, s)) ∧
  (∀ (s : State) (a : Word) (v : Byte),
    (0xC000 ≤ a.toNat ∧ a.toNat ≤ 0xDFFF ∨ 0xFE00 ≤ a.toNat ∧ a.toNat ≤ 0xFEFF ∨ 0xFF01 ≤ a.toNat ∧ a.toNat ≤ 0xFF03 ∨
      0xFF08 ≤ a.toNat ∧ a.toNat ≤ 0xFF0F ∨ 0xFF27 ≤ a.toNat ∧ a.toNat ≤ 0xFF3F ∨ 0xFF4C ≤ a.toNat ∨
      0xA000 ≤ a.toNat ∧ a.toNat ≤ 0xBFFF ∧ hasRam s.params.cartKind = false) →
    routeRead a s = (s.mem.read a.toNat, s) ∧ routeWrite a v s = { s with mem := s.mem.write a.toNat v }) ∧
  (∀ (s : State) (a : Word) (v : Byte),
    (a.toNat = 0xFF00 ∨ 0xFF10 ≤ a.toNat ∧ a.toNat ≤ 0xFF26 ∨ 0xFF40 ≤ a.toNat ∧ a.toNat ≤ 0xFF4B ∨
      0x8000 ≤ a.toNat ∧ a.toNat ≤ 0x9FFF) →
    (s.params.ext = .stub →
      routeRead a s = (s.mem.read a.toNat, s) ∧ routeWrite a v s = { s with mem := s.mem.write a.toNat v }) ∧
    (s.params.ext = .collaborators → routeWrite a v s = s))

/-- An access of two bytes is two byte accesses, the low byte at the lower address first, 4 cycles charged after each (after the
access: D2, log 15), the second address wrapping modulo 65536 (D9, log 15); a fetch is a charged read at PC, which then
advances. -/
def Obligations.TwoByteAccessIsTwoByteAccesses : Prop :=
  (∀ (a : Word) (s : State), memRead a s = ((routeRead a s).1, tick 4 (routeRead a s).2)) ∧
  (∀ (a : Word) (v : Byte) (s : State), memWrite a v s = tick 4 (routeWrite a v s)) ∧
  (∀ (a : Word) (s : State), (memRead2 a s).1.toNat =
      (memRead a s).1.toNat + 256 * (memRead (a + 1) (memRead a s).2).1.toNat ∧
    (memRead2 a s).2 = (memRead (a + 1) (memRead a s).2).2) ∧
  (∀ (a v : Word) (s : State), memWrite2 a v s = memWrite (a + 1) (hiByte v) (memWrite a (loByte v) s)) ∧
  (0xFFFF#16 + 1 = 0x0000#16) ∧
  (∀ s : State, fetch8 s = ((memRead s.cpu.pc s).1, (memRead s.cpu.pc s).2.setPc (s.cpu.pc + 1)))

/-- Passing time changes of the CPU the cycle count only, and keeps memory, cartridge control, RAM, TMA, TAC and the parameters;
in IF it only sets bits. So does a charged read. What the collaborators do between steps (R404, D39, log 7) changes at most bit 4
of IF, which it may set, and the model's count of draws; with the stub, nothing. -/
def Obligations.TimePassingFrame : Prop :=
  (∀ (n : Nat) (s : State), s.mem.wf = true → MemoryKept s (tick n s)) ∧
  (∀ (n : Nat) (s : State), (tick n s).cpu = { s.cpu with cyc := s.cpu.cyc + n }) ∧
  (∀ (a : Word) (s : State), s.mem.wf = true → MemoryKept s (memRead a s).2) ∧
  (∀ (a : Word) (s : State), (memRead a s).2.cpu = { s.cpu with cyc := s.cpu.cyc + 4 }) ∧
  (∀ s : State, s.params.ext = .stub → betweenSteps s = s) ∧
  (∀ s : State, ∃ d, betweenSteps s = { s with draws := d } ∨ betweenSteps s = { s.request 0x10 with draws := d }) ∧
  (∀ s : State, (betweenSteps s).cpu = s.cpu ∧ (betweenSteps s).timer = s.timer ∧ (betweenSteps s).cart = s.cart ∧
    (betweenSteps s).params = s.params ∧ (∀ k, k ≠ 0xFF0F → (betweenSteps s).mem.read k = s.mem.read k) ∧
    (s.mem.wf = true → (∀ j, j ≠ 4 → (betweenSteps s).ifByte.getLsbD j = s.ifByte.getLsbD j) ∧
      (s.ifByte.getLsbD 4 = true → (betweenSteps s).ifByte.getLsbD 4 = true)))

/-- Time is additive: m cycles and then n are m + n cycles, with the stub and the system clock. -/
def Obligations.TickIsAdditive : Prop :=
  ∀ (m n : Nat) (s : State), s.mem.wf = true → s.params.ext = .stub → s.params.rtcMode = .system →
    0 < s.params.rtcCyclesPerTick → tick n (tick m s) = tick (m + n) s

/-! The timer. -/

/-- The counter counts the cycles passed modulo 65536, whatever TAC says, and DIV is its top byte. -/
def Obligations.CounterCountsCycles : Prop :=
  (∀ (n : Nat) (s : State), (tick n s).timer.counter.toNat = (s.timer.counter.toNat + n) % 65536) ∧
  (∀ s : State, (routeRead 0xFF04 s).1.toNat = s.timer.counter.toNat / 256)

/-- TIMA counts the falling edges of the selected counter bit: with the timer enabled and no overflow, n cycles add one for each
multiple of the period passed; disabled, none. The periods 1024, 64 and 256 are D15; 16 is the document's. -/
def Obligations.TimaCountsFallingEdges : Prop :=
  (∀ (t : Timer) (n : Nat), t.prevSig = t.signal → t.reloadDelay = 0 → t.tac.getLsbD 2 = true →
    (∀ p, p = (match t.tac.toNat % 4 with | 0 => 1024 | 1 => 16 | 2 => 64 | _ => 256) →
      t.tima.toNat + (t.counter.toNat % p + n) / p ≤ 255 →
      (Timer.steps n t).1.tima.toNat = t.tima.toNat + (t.counter.toNat % p + n) / p ∧ (Timer.steps n t).2 = false)) ∧
  (∀ (t : Timer) (n : Nat), t.prevSig = t.signal → t.reloadDelay = 0 → t.tac.getLsbD 2 = false →
    (Timer.steps n t).1.tima = t.tima ∧ (Timer.steps n t).2 = false)

/-- An edge that takes TIMA from 0xFF leaves 0x00 for three more cycles; the fourth reloads it from TMA and requests the Timer
interrupt, bit 2 of IF. -/
def Obligations.TimaOverflowReloads : Prop :=
  ∀ s : State, s.mem.wf = true → s.params.ext = .stub → s.timer.tima = 0xFF → s.timer.reloadDelay = 0 →
    s.timer.prevSig = true → s.timer.tac.getLsbD 2 = true →
    s.timer.counter.getLsbD (Timer.selBit s.timer.tac) = true →
    (s.timer.counter + 1).getLsbD (Timer.selBit s.timer.tac) = false →
    (∀ j, j ≤ 3 → (tick (1 + j) s).timer.tima = 0x00 ∧ (tick (1 + j) s).ifByte = s.ifByte) ∧
    (tick 5 s).timer.tima = s.timer.tma ∧ (tick 5 s).ifByte = s.ifByte ||| 0x04

/-- The four timer registers as they read, without side effect. -/
def Obligations.TimerReads : Prop :=
  ∀ s : State, routeRead 0xFF04 s = (hiByte s.timer.counter, s) ∧ routeRead 0xFF05 s = (s.timer.tima, s) ∧
    routeRead 0xFF06 s = (s.timer.tma, s) ∧ routeRead 0xFF07 s = (s.timer.tac, s)

/-- Writes of the timer registers: DIV clears the counter whatever the value, and it and TAC then run the edge check, which can
itself count TIMA; TIMA and TMA are stored and nothing else changes (D14). -/
def Obligations.TimerWrites : Prop :=
  (∀ (v : Byte) (s : State), ∃ t, routeWrite 0xFF04 v s = { s with timer := t } ∧ t.counter = 0x0000 ∧ t.tma = s.timer.tma ∧
    t.tac = s.timer.tac ∧ t.prevSig = false ∧
    t.tima = (if s.timer.prevSig = true then s.timer.tima + 1 else s.timer.tima) ∧
    t.reloadDelay = (if s.timer.prevSig = true ∧ s.timer.tima = 0xFF then 4 else s.timer.reloadDelay)) ∧
  (∀ (v : Byte) (s : State), routeWrite 0xFF05 v s = { s with timer := { s.timer with tima := v } }) ∧
  (∀ (v : Byte) (s : State), routeWrite 0xFF06 v s = { s with timer := { s.timer with tma := v } }) ∧
  (∀ (v : Byte) (s : State), ∃ t, routeWrite 0xFF07 v s = { s with timer := t } ∧ t.counter = s.timer.counter ∧
    t.tma = s.timer.tma ∧ t.tac = v ∧ t.prevSig = (v.getLsbD 2 && s.timer.counter.getLsbD (Timer.selBit v)) ∧
    t.tima = (if s.timer.prevSig = true ∧ t.prevSig = false then s.timer.tima + 1 else s.timer.tima) ∧
    t.reloadDelay = (if s.timer.prevSig = true ∧ t.prevSig = false ∧ s.timer.tima = 0xFF then 4 else s.timer.reloadDelay))

/-! The cartridge. -/

/-- MBC1 commands: the low five bits of the bank with 0 replaced by 1, bits 5 and 6, and two ranges without effect (D21). -/
def Obligations.Mbc1Commands : Prop :=
  ∀ (s : State) (a : Word) (v : Byte), s.params.cartKind = .mbc1 →
    ((a.toNat ≤ 0x1FFF ∨ 0x6000 ≤ a.toNat ∧ a.toNat ≤ 0x7FFF) → routeWrite a v s = s) ∧
    (0x2000 ≤ a.toNat → a.toNat ≤ 0x3FFF →
      ∃ bank : BitVec 7, routeWrite a v s = { s with cart := { s.cart with romBankNum := bank } } ∧
        bank.toNat = s.cart.romBankNum.toNat / 32 * 32 + (if v.toNat % 32 = 0 then 1 else v.toNat % 32)) ∧
    (0x4000 ≤ a.toNat → a.toNat ≤ 0x5FFF →
      ∃ bank : BitVec 7, routeWrite a v s = { s with cart := { s.cart with romBankNum := bank } } ∧
        bank.toNat = s.cart.romBankNum.toNat % 32 + 32 * (v.toNat % 4))

/-- MBC3 commands: enable on low nibble 0x0A (D22), the 7-bit bank with 0 replaced by 1, the select register with its ignored
values (D23), and no latch without a timer. -/
def Obligations.Mbc3Commands : Prop :=
  ∀ (s : State) (a : Word) (v : Byte), s.params.cartKind = .mbc3 ∨ s.params.cartKind = .mbc3Timer →
    (a.toNat ≤ 0x1FFF →
      routeWrite a v s = { s with cart := { s.cart with ramEnabled := decide (v.toNat % 16 = 0x0A) } }) ∧
    (0x2000 ≤ a.toNat → a.toNat ≤ 0x3FFF →
      ∃ bank : BitVec 7, routeWrite a v s = { s with cart := { s.cart with romBankNum := bank } } ∧
        bank.toNat = (if v.toNat % 128 = 0 then 1 else v.toNat % 128)) ∧
    (0x4000 ≤ a.toNat → a.toNat ≤ 0x5FFF →
      (∀ bank : Fin 4, v.toNat = bank.val →
        routeWrite a v s = { s with cart := { s.cart with ramBank := bank, rtcMapped := false } }) ∧
      (∀ i : Fin 5, v.toNat = 0x08 + i.val → s.params.cartKind = .mbc3Timer →
        routeWrite a v s = { s with cart := { s.cart with rtcSel := i, rtcMapped := true } }) ∧
      ((4 ≤ v.toNat ∧ v.toNat ≤ 7 ∨ 0x0D ≤ v.toNat ∨
        0x08 ≤ v.toNat ∧ v.toNat ≤ 0x0C ∧ s.params.cartKind = .mbc3) → routeWrite a v s = s)) ∧
    (0x6000 ≤ a.toNat → a.toNat ≤ 0x7FFF → s.params.cartKind = .mbc3 → routeWrite a v s = s)

/-- The latch of a timer cartridge: a write of 0 arms it; a write of 1 while armed copies all five live registers and disarms it;
a 1 while not armed copies nothing, and any other value only disarms it (D24). Time leaves the latched copy alone. -/
def Obligations.RtcLatchIsAtomic : Prop :=
  (∀ (s : State) (a : Word) (v : Byte), s.params.cartKind = .mbc3Timer → 0x6000 ≤ a.toNat → a.toNat ≤ 0x7FFF →
    (v = 0 → routeWrite a v s = { s with cart := { s.cart with latchArmed := true } }) ∧
    (v = 1 → s.cart.latchArmed = true →
      routeWrite a v s = { s with cart := { s.cart with rtcLatched := s.cart.rtcLive, latchArmed := false } }) ∧
    (v = 1 → s.cart.latchArmed = false → routeWrite a v s = s) ∧
    (v ≠ 0 → v ≠ 1 → routeWrite a v s = { s with cart := { s.cart with latchArmed := false } })) ∧
  (∀ (n : Nat) (s : State), (tick n s).cart.rtcLatched = s.cart.rtcLatched)

/-- Reads of 0xA000 to 0xBFFF on a cartridge with RAM: 0 while disabled, the latched RTC register while one is mapped, else the
byte of the RAM bank. -/
def Obligations.WindowReads : Prop :=
  ∀ (s : State) (a : Word), hasRam s.params.cartKind = true → 0xA000 ≤ a.toNat → a.toNat ≤ 0xBFFF →
    (s.cart.ramEnabled = false → routeRead a s = (0x00, s)) ∧
    (s.cart.ramEnabled = true → s.cart.rtcMapped = true → routeRead a s = (s.cart.rtcLatched.get s.cart.rtcSel, s)) ∧
    (s.cart.ramEnabled = true → s.cart.rtcMapped = false →
      routeRead a s = (s.cart.ram.read (s.cart.ramBank.val * 0x2000 + (a.toNat - 0xA000)), s))

/-- Writes of 0xA000 to 0xBFFF on a cartridge with RAM: nothing while disabled; the live RTC register under its mask while one is
mapped, a seconds write clearing the accumulator; else the byte of the RAM bank (D25). -/
def Obligations.WindowWrites : Prop :=
  ∀ (s : State) (a : Word) (v : Byte), hasRam s.params.cartKind = true → 0xA000 ≤ a.toNat → a.toNat ≤ 0xBFFF →
    (s.cart.ramEnabled = false → routeWrite a v s = s) ∧
    (s.cart.ramEnabled = true → s.cart.rtcMapped = true →
      ∃ live : Rtc, routeWrite a v s = { s with cart := { s.cart with
          rtcLive := live, rtcAcc := if s.cart.rtcSel = 0 then 0 else s.cart.rtcAcc } } ∧
        (∀ i, live.get i = if i = s.cart.rtcSel then v &&& Rtc.mask i else s.cart.rtcLive.get i)) ∧
    (s.cart.ramEnabled = true → s.cart.rtcMapped = false →
      routeWrite a v s = { s with cart := { s.cart with
          ram := s.cart.ram.write (s.cart.ramBank.val * 0x2000 + (a.toNat - 0xA000)) v } })

/-- RTC seconds carry to minutes, hours and a 9-bit day count: n seconds add n modulo 512 days, the registers stay in range, the
halt bit stays, and the overflow flag is set by the wrap and never cleared. A seconds register of 60 or more goes to 0 with a
carry (D26). -/
def Obligations.RtcSecondCounts : Prop :=
  (∀ (n : Nat) (r : Rtc), r.inRange →
    (Rtc.tickSeconds n r).inRange ∧ (Rtc.tickSeconds n r).total = (r.total + n) % (512 * 86400) ∧
    (Rtc.tickSeconds n r).halted = r.halted ∧
    (Rtc.tickSeconds n r).daysUpper.getLsbD 7 = (r.daysUpper.getLsbD 7 || decide (512 * 86400 ≤ r.total + n))) ∧
  (∀ r : Rtc, 60 ≤ r.seconds.toNat + 1 → r.minutes.toNat + 1 < 60 →
    r.tickSecond = { r with seconds := 0, minutes := r.minutes + 1 })

/-- The RTC runs on cycles: in system mode one second for each `rtcCyclesPerTick` accumulated, none while the halt bit is set, and
only on a timer cartridge (D26). In wallclock mode it advances by the whole seconds since the stamp, which the stamp then takes in;
how many there are is a free value (log 8), and the stamp's 32 bits are the model's (log 9). -/
def Obligations.RtcRunsOnCycles : Prop :=
  (∀ (n : Nat) (s : State), s.params.cartKind ≠ .mbc3Timer ∨ s.cart.rtcLive.halted = true → (tick n s).cart = s.cart) ∧
  (∀ (n : Nat) (s : State), s.params.cartKind = .mbc3Timer → s.cart.rtcLive.halted = false → s.params.rtcMode = .system →
    0 < s.params.rtcCyclesPerTick →
    (tick n s).cart = { s.cart with
      rtcLive := Rtc.tickSeconds ((s.cart.rtcAcc + n) / s.params.rtcCyclesPerTick) s.cart.rtcLive,
      rtcAcc := (s.cart.rtcAcc + n) % s.params.rtcCyclesPerTick }) ∧
  (∀ (n : Nat) (s : State), s.params.cartKind = .mbc3Timer → s.cart.rtcLive.halted = false → s.params.rtcMode = .wallclock →
    ∀ k, k = Config.wallclockSeconds s.draws →
    (tick n s).cart = { s.cart with
      rtcLive := Rtc.tickSeconds k s.cart.rtcLive, rtcStamp := s.cart.rtcStamp + BitVec.ofNat 32 k }) ∧
  State.reset.params.rtcCyclesPerTick = 131072

/-! Interrupts. -/

/-- Interrupt entry: 8 idle cycles, the request bit entered cleared, IME cleared, PC pushed, the low byte at the new SP and the high
byte above it, and PC at the vector (D3, D11: log 15). No other register, byte of memory or byte of cartridge RAM changes, wherever
the stack lies. In IF the bit entered reads 0 after the entry: VBlank's and LCDSTAT's unless open collaborators ask again in the
push's 8 cycles, the Timer's unless a reload falls due in them. Bits 3 to 7 but the one entered stay, and every other set bit stays
set. A push onto IF itself stores the byte there. -/
def Obligations.InterruptEntrySavesPc : Prop :=
  ∀ (i : Nat) (s : State) (a0 a1 : Word) (lo hi : Byte), i < 5 → s.mem.wf = true → a0 = s.cpu.sp - 2 → a1 = s.cpu.sp - 1 →
    lo = loByte s.cpu.pc → hi = hiByte s.cpu.pc → ∀ t, t = enterInterrupt i s →
    t.cpu = { s.cpu with sp := s.cpu.sp - 2, pc := BitVec.ofNat 16 (0x40 + 8 * i), ime := false, cyc := s.cpu.cyc + 16 } ∧
    (∀ u, u = (tick 8 s).setIf ((tick 8 s).ifByte &&& ~~~(1#8 <<< i)) →
      t = (memWrite a1 hi (memWrite a0 lo ((u.setIme false).setSp a0))).setPc (BitVec.ofNat 16 (0x40 + 8 * i))) ∧
    (∀ k, k ≠ 0xFF0F → backing a0 s ≠ .mem k → backing a1 s ≠ .mem k → t.mem.read k = s.mem.read k) ∧
    (∀ off, backing a0 s ≠ .ram off → backing a1 s ≠ .ram off → t.cart.ram.read off = s.cart.ram.read off) ∧
    (∀ k, k ≠ 0xFF0F → (backing a0 s = .mem k → t.mem.read k = lo) ∧ (backing a1 s = .mem k → t.mem.read k = hi)) ∧
    (s.cart.ram.wf = true → ∀ off, (backing a0 s = .ram off → t.cart.ram.read off = lo) ∧
      (backing a1 s = .ram off → t.cart.ram.read off = hi)) ∧
    (a0 ≠ 0xFF0F → a1 ≠ 0xFF0F →
      (∀ j, j ≠ i → s.ifByte.getLsbD j = true → t.ifByte.getLsbD j = true) ∧
      (∀ j, j ≠ i → (3 ≤ j ∨ s.params.ext = .stub ∧ j ≠ 2) → t.ifByte.getLsbD j = s.ifByte.getLsbD j) ∧
      (3 ≤ i ∨ s.params.ext = .stub ∧ i ≠ 2 → t.ifByte.getLsbD i = false) ∧
      (i = 2 → t.ifByte.getLsbD 2 = ((Timer.steps 4 (routeWrite a0 lo (tick 8 s)).timer).2 ||
        (Timer.steps 4 (routeWrite a1 hi (memWrite a0 lo (tick 8 s))).timer).2))) ∧
    (∀ v, (a0 = 0xFF0F ∧ v = lo ∨ a1 = 0xFF0F ∧ v = hi) → (∀ j, 3 ≤ j → t.ifByte.getLsbD j = v.getLsbD j) ∧
      (∀ j, v.getLsbD j = true → t.ifByte.getLsbD j = true))

/-- With IME set, the lowest-numbered request that is set and enabled is entered, and no other (D5: a disabled request does not
block a higher number). -/
def Obligations.LowestEnabledRequestIsEntered : Prop :=
  ∀ (i : Nat) (s : State), i < 5 → s.cpu.ime = true → s.ifByte.getLsbD i = true → s.ieByte.getLsbD i = true →
    (∀ j, j < i → s.ifByte.getLsbD j = false ∨ s.ieByte.getLsbD j = false) →
    interruptCheck s = enterInterrupt i (s.setHalted false)

/-- Any request bit 0 to 4 ends HALT, whatever IME and IE hold; without IME or an enabled request nothing is entered, without any
request nothing changes, and with IME and an enabled request the same check wakes the CPU and enters a handler. That a request set
but not enabled blocks no higher number, and still wakes, is D5 (R406, log 15). -/
def Obligations.RequestWakesWithoutEntry : Prop :=
  (∀ (i : Nat) (s : State), i < 5 → s.ifByte.getLsbD i = true → (interruptCheck s).cpu.halted = false) ∧
  (∀ (i : Nat) (s : State), i < 5 → s.ifByte.getLsbD i = true →
    (s.cpu.ime = false ∨ ∀ j, j < 5 → s.ifByte.getLsbD j = false ∨ s.ieByte.getLsbD j = false) →
    interruptCheck s = s.setHalted false) ∧
  (∀ s : State, (∀ j, j < 5 → s.ifByte.getLsbD j = false) → interruptCheck s = s) ∧
  (∀ (i : Nat) (s : State), i < 5 → s.cpu.ime = true → s.ifByte.getLsbD i = true → s.ieByte.getLsbD i = true →
    ∃ j, j ≤ i ∧ interruptCheck s = enterInterrupt j (s.setHalted false))

/-! Results of the instructions: every statement gives the bytes and the next state. -/

/-- LD r,r′; LD r,(HL) with the address taken before the write; LD (HL),r; LD r,n and LD (HL),n; and the loads and stores of A
through 0xFF00 + n, 0xFF00 + C and nn. -/
def Obligations.RegisterLoads : Prop :=
  (∀ (dst src : Reg8) (s : State), encode (Instr.ldRegReg dst src) = [opByte 1 dst.code src.code] ∧
    exec (Instr.ldRegReg dst src) s = .next (s.setReg8 dst (s.reg8 src))) ∧
  (∀ (dst : Reg8) (s : State), encode (Instr.ldRegAtHL dst) = [opByte 1 dst.code 6] ∧
    exec (Instr.ldRegAtHL dst) s = .next ((memRead (s.pair .hl) s).2.setReg8 dst (memRead (s.pair .hl) s).1)) ∧
  (∀ (r : Reg8) (s : State), encode (Instr.ldAtHLReg r) = [opByte 1 6 r.code] ∧
    exec (Instr.ldAtHLReg r) s = .next (memWrite (s.pair .hl) (s.reg8 r) s)) ∧
  (∀ (dst : Reg8) (n : Byte) (s : State), encode (Instr.ldLocImm (.reg dst) n) = [opByte 0 dst.code 6, n] ∧
    exec (Instr.ldLocImm (.reg dst) n) s = .next (s.setReg8 dst n)) ∧
  (∀ (n : Byte) (s : State), encode (.ldAtHLN n) = [0x36, n] ∧ exec (.ldAtHLN n) s = .next (memWrite (s.pair .hl) n s)) ∧
  (∀ (n : Byte) (s : State), encode (.ldhAtNA n) = [0xE0, n] ∧
    exec (.ldhAtNA n) s = .next (memWrite (BitVec.ofNat 16 (0xFF00 + n.toNat)) s.cpu.a s)) ∧
  (∀ (n : Byte) (s : State), encode (.ldhAAtN n) = [0xF0, n] ∧ exec (.ldhAAtN n) s =
    .next ((memRead (BitVec.ofNat 16 (0xFF00 + n.toNat)) s).2.setReg8 .a (memRead (BitVec.ofNat 16 (0xFF00 + n.toNat)) s).1)) ∧
  (∀ s : State, encode .ldAtHighCA = [0xE2] ∧
    exec .ldAtHighCA s = .next (memWrite (BitVec.ofNat 16 (0xFF00 + s.cpu.c.toNat)) s.cpu.a s)) ∧
  (∀ s : State, encode .ldAAtHighC = [0xF2] ∧ exec .ldAAtHighC s =
    .next ((memRead (BitVec.ofNat 16 (0xFF00 + s.cpu.c.toNat)) s).2.setReg8 .a
      (memRead (BitVec.ofNat 16 (0xFF00 + s.cpu.c.toNat)) s).1)) ∧
  (∀ (nn : Word) (s : State), encode (.ldAtNNA nn) = [0xEA, loByte nn, hiByte nn] ∧
    exec (.ldAtNNA nn) s = .next (memWrite nn s.cpu.a s)) ∧
  (∀ (nn : Word) (s : State), encode (.ldAAtNN nn) = [0xFA, loByte nn, hiByte nn] ∧
    exec (.ldAAtNN nn) s = .next ((memRead nn s).2.setReg8 .a (memRead nn s).1))

/-- The loads and stores of A through BC, DE, and HL with its step up or down after the access. -/
def Obligations.AccumulatorLoads : Prop :=
  (∀ s : State, encode .ldAtBCA = [0x02] ∧ exec .ldAtBCA s = .next (memWrite (s.pair .bc) s.cpu.a s)) ∧
  (∀ s : State, encode .ldAtDEA = [0x12] ∧ exec .ldAtDEA s = .next (memWrite (s.pair .de) s.cpu.a s)) ∧
  (∀ s : State, encode .ldAtHLIncA = [0x22] ∧
    exec .ldAtHLIncA s = .next ((memWrite (s.pair .hl) s.cpu.a s).setPair .hl (s.pair .hl + 1))) ∧
  (∀ s : State, encode .ldAtHLDecA = [0x32] ∧
    exec .ldAtHLDecA s = .next ((memWrite (s.pair .hl) s.cpu.a s).setPair .hl (s.pair .hl - 1))) ∧
  (∀ s : State, encode .ldAAtBC = [0x0A] ∧
    exec .ldAAtBC s = .next ((memRead (s.pair .bc) s).2.setReg8 .a (memRead (s.pair .bc) s).1)) ∧
  (∀ s : State, encode .ldAAtDE = [0x1A] ∧
    exec .ldAAtDE s = .next ((memRead (s.pair .de) s).2.setReg8 .a (memRead (s.pair .de) s).1)) ∧
  (∀ s : State, encode .ldAAtHLInc = [0x2A] ∧ exec .ldAAtHLInc s =
    .next (((memRead (s.pair .hl) s).2.setReg8 .a (memRead (s.pair .hl) s).1).setPair .hl (s.pair .hl + 1))) ∧
  (∀ s : State, encode .ldAAtHLDec = [0x3A] ∧ exec .ldAAtHLDec s =
    .next (((memRead (s.pair .hl) s).2.setReg8 .a (memRead (s.pair .hl) s).1).setPair .hl (s.pair .hl - 1)))

/-- LD rr,nn; LD (nn),SP; LD SP,HL; LD HL,SP+e with the flags of the unsigned byte addition (internal cycles D10, flags D34). -/
def Obligations.PairLoads : Prop :=
  (∀ (p : Pair) (nn : Word) (s : State), encode (Instr.ldPairImm p nn) = [opByte 0 (2 * p.code) 1, loByte nn, hiByte nn] ∧
    exec (Instr.ldPairImm p nn) s = .next (s.setPair p nn)) ∧
  (∀ (nn : Word) (s : State), encode (.ldAtNNSP nn) = [0x08, loByte nn, hiByte nn] ∧
    exec (.ldAtNNSP nn) s = .next (memWrite2 nn s.cpu.sp s)) ∧
  (∀ s : State, encode .ldSPHL = [0xF9] ∧ exec .ldSPHL s = .next (tick 4 (s.setSp (s.pair .hl)))) ∧
  (∀ (e : Byte) (s : State), encode (.ldHLSPPlusE e) = [0xF8, e] ∧ exec (.ldHLSPPlusE e) s =
    .next (tick 4 ((s.setFlags false false (s.cpu.sp.toNat % 16 + e.toNat % 16 > 15)
      (s.cpu.sp.toNat % 256 + e.toNat > 255)).setPair .hl (BitVec.ofInt 16 (s.cpu.sp.toNat + e.toInt)))))

/-- PUSH: an internal cycle, SP down by 2, the low byte stored at SP and the high byte above it. POP: the low byte from SP, the high
byte above it, SP up by 2, into the pair, with F's low nibble dropped (D10, D11). -/
def Obligations.PushAndPop : Prop :=
  (∀ (p : StackPair) (s : State), encode (Instr.push p) = [opByte 3 (2 * p.code) 5] ∧ exec (Instr.push p) s =
    .next (memWrite2 (s.cpu.sp - 2)
      (match p with | .bc => s.pair .bc | .de => s.pair .de | .hl => s.pair .hl | .af => s.af)
      ((tick 4 s).setSp (s.cpu.sp - 2)))) ∧
  (∀ (p : StackPair) (s : State), encode (Instr.pop p) = [opByte 3 (2 * p.code) 1] ∧
    ∃ t v, v = (memRead2 s.cpu.sp s).1 ∧ t = (memRead2 s.cpu.sp s).2.setSp (s.cpu.sp + 2) ∧ exec (Instr.pop p) s =
      .next (match p with | .bc => t.setPair .bc v | .de => t.setPair .de v | .hl => t.setPair .hl v | .af => t.setAf v))

/-- ADD and ADC on every operand form: the sum modulo 256, and all four flags. -/
def Obligations.AddAndAdc : Prop :=
  (∀ (x : Loc8) (s s1 : State) (v : Byte), readLoc8 x s = (v, s1) → encode (Instr.alu .add x) = [opByte 2 0 x.code] ∧
    exec (Instr.alu .add x) s = .next (s1.withAF (BitVec.ofNat 8 (s.cpu.a.toNat + v.toNat))
      ((s.cpu.a.toNat + v.toNat) % 256 = 0) false (s.cpu.a.toNat % 16 + v.toNat % 16 > 0x0F)
      (s.cpu.a.toNat + v.toNat > 0xFF))) ∧
  (∀ (n : Byte) (s : State), encode (.addAN n) = [0xC6, n] ∧
    exec (.addAN n) s = .next (s.withAF (BitVec.ofNat 8 (s.cpu.a.toNat + n.toNat))
      ((s.cpu.a.toNat + n.toNat) % 256 = 0) false (s.cpu.a.toNat % 16 + n.toNat % 16 > 0x0F)
      (s.cpu.a.toNat + n.toNat > 0xFF))) ∧
  (∀ (x : Loc8) (s s1 : State) (v : Byte) (c : Nat), readLoc8 x s = (v, s1) → c = s.flagC.toNat →
    encode (Instr.alu .adc x) = [opByte 2 1 x.code] ∧
    exec (Instr.alu .adc x) s = .next (s1.withAF (BitVec.ofNat 8 (s.cpu.a.toNat + v.toNat + c))
      ((s.cpu.a.toNat + v.toNat + c) % 256 = 0) false (s.cpu.a.toNat % 16 + v.toNat % 16 + c > 0x0F)
      (s.cpu.a.toNat + v.toNat + c > 0xFF))) ∧
  (∀ (n : Byte) (s : State) (c : Nat), c = s.flagC.toNat → encode (.adcAN n) = [0xCE, n] ∧
    exec (.adcAN n) s = .next (s.withAF (BitVec.ofNat 8 (s.cpu.a.toNat + n.toNat + c))
      ((s.cpu.a.toNat + n.toNat + c) % 256 = 0) false (s.cpu.a.toNat % 16 + n.toNat % 16 + c > 0x0F)
      (s.cpu.a.toNat + n.toNat + c > 0xFF)))

/-- SUB, SBC and CP on every operand form: the difference modulo 256 (CP keeps A), and all four flags. -/
def Obligations.SubSbcAndCp : Prop :=
  (∀ (x : Loc8) (s s1 : State) (v : Byte), readLoc8 x s = (v, s1) → encode (Instr.alu .sub x) = [opByte 2 2 x.code] ∧
    exec (Instr.alu .sub x) s = .next (s1.withAF (s.cpu.a - v) (s.cpu.a - v = 0) true
      (s.cpu.a.toNat % 16 < v.toNat % 16) (v.toNat > s.cpu.a.toNat))) ∧
  (∀ (n : Byte) (s : State), encode (.subN n) = [0xD6, n] ∧
    exec (.subN n) s = .next (s.withAF (s.cpu.a - n) (s.cpu.a - n = 0) true
      (s.cpu.a.toNat % 16 < n.toNat % 16) (n.toNat > s.cpu.a.toNat))) ∧
  (∀ (x : Loc8) (s s1 : State) (v d : Byte) (c : Nat), readLoc8 x s = (v, s1) → c = s.flagC.toNat →
    d = s.cpu.a - v - BitVec.ofNat 8 c → encode (Instr.alu .sbc x) = [opByte 2 3 x.code] ∧
    exec (Instr.alu .sbc x) s = .next (s1.withAF d (d = 0) true
      (s.cpu.a.toNat % 16 < v.toNat % 16 + c) (v.toNat + c > s.cpu.a.toNat))) ∧
  (∀ (n d : Byte) (s : State) (c : Nat), c = s.flagC.toNat → d = s.cpu.a - n - BitVec.ofNat 8 c →
    encode (.sbcAN n) = [0xDE, n] ∧
    exec (.sbcAN n) s = .next (s.withAF d (d = 0) true
      (s.cpu.a.toNat % 16 < n.toNat % 16 + c) (n.toNat + c > s.cpu.a.toNat))) ∧
  (∀ (x : Loc8) (s s1 : State) (v : Byte), readLoc8 x s = (v, s1) → encode (Instr.alu .cp x) = [opByte 2 7 x.code] ∧
    exec (Instr.alu .cp x) s = .next (s1.withAF s.cpu.a (v = s.cpu.a) true
      (s.cpu.a.toNat % 16 < v.toNat % 16) (v.toNat > s.cpu.a.toNat))) ∧
  (∀ (n : Byte) (s : State), encode (.cpN n) = [0xFE, n] ∧
    exec (.cpN n) s = .next (s.withAF s.cpu.a (n = s.cpu.a) true
      (s.cpu.a.toNat % 16 < n.toNat % 16) (n.toNat > s.cpu.a.toNat)))

/-- AND, XOR and OR on every operand form: the result, Z from it, N and C clear, H set by AND and cleared by the others. -/
def Obligations.AndXorOr : Prop :=
  (∀ (x : Loc8) (s s1 : State) (v : Byte), readLoc8 x s = (v, s1) →
    encode (Instr.alu .and x) = [opByte 2 4 x.code] ∧ encode (Instr.alu .xor x) = [opByte 2 5 x.code] ∧
    encode (Instr.alu .or x) = [opByte 2 6 x.code] ∧
    exec (Instr.alu .and x) s = .next (s1.withAF (s.cpu.a &&& v) (s.cpu.a &&& v = 0) false true false) ∧
    exec (Instr.alu .xor x) s = .next (s1.withAF (s.cpu.a ^^^ v) (s.cpu.a ^^^ v = 0) false false false) ∧
    exec (Instr.alu .or x) s = .next (s1.withAF (s.cpu.a ||| v) (s.cpu.a ||| v = 0) false false false)) ∧
  (∀ (n : Byte) (s : State),
    encode (.andN n) = [0xE6, n] ∧ encode (.xorN n) = [0xEE, n] ∧ encode (.orN n) = [0xF6, n] ∧
    exec (.andN n) s = .next (s.withAF (s.cpu.a &&& n) (s.cpu.a &&& n = 0) false true false) ∧
    exec (.xorN n) s = .next (s.withAF (s.cpu.a ^^^ n) (s.cpu.a ^^^ n = 0) false false false) ∧
    exec (.orN n) s = .next (s.withAF (s.cpu.a ||| n) (s.cpu.a ||| n = 0) false false false))

/-- 8-bit INC and DEC of a register and of the byte at HL (a read and a later write): the result modulo 256, Z, N and H, C kept. -/
def Obligations.IncAndDec8 : Prop :=
  ∀ (x : Loc8) (s s1 : State) (v : Byte), readLoc8 x s = (v, s1) →
    encode (Instr.inc x) = [opByte 0 x.code 4] ∧ encode (Instr.dec x) = [opByte 0 x.code 5] ∧
    exec (Instr.inc x) s = .next (writeLoc8 x (v + 1) (s1.setFlags (v + 1 = 0) false (v.toNat % 16 = 0x0F) s.flagC)) ∧
    exec (Instr.dec x) s = .next (writeLoc8 x (v - 1) (s1.setFlags (v - 1 = 0) true (v.toNat % 16 = 0x00) s.flagC))

/-- DAA by the algorithm of R235 (D38), CPL, SCF and CCF (D34). -/
def Obligations.DaaCplScfCcf : Prop :=
  (∀ s : State, encode .daa = [0x27] ∧ ∃ (a : Byte) (c : Bool),
    c = (s.flagC || (!s.flagN && decide (s.cpu.a.toNat > 0x99))) ∧
    a.toNat = (if s.flagN = true
      then (s.cpu.a.toNat + 512 - (if s.flagC = true then 0x60 else 0) - (if s.flagH = true then 0x06 else 0)) % 256
      else (s.cpu.a.toNat + (if c = true then 0x60 else 0) +
        (if s.flagH = true ∨ s.cpu.a.toNat % 16 > 9 then 0x06 else 0)) % 256) ∧
    exec .daa s = .next (s.withAF a (a = 0) s.flagN false c)) ∧
  (∀ s : State, encode .cpl = [0x2F] ∧
    exec .cpl s = .next (s.withAF (s.cpu.a ^^^ 0xFF) s.flagZ true true s.flagC)) ∧
  (∀ s : State, encode .scf = [0x37] ∧ exec .scf s = .next (s.withAF s.cpu.a s.flagZ false false true)) ∧
  (∀ s : State, encode .ccf = [0x3F] ∧ exec .ccf s = .next (s.withAF s.cpu.a s.flagZ false false (!s.flagC)))

/-- DAA makes BCD arithmetic right: after ADC or SBC of two packed two-digit numbers, with either carry, it leaves the decimal
sum or difference modulo 100, the decimal carry or borrow, and Z (the algorithm is D38). -/
def Obligations.DaaAddsBcd : Prop :=
  ∀ (m n : Nat) (s : State), m < 100 → n < 100 → s.cpu.a = bcd m →
    (∃ s1 t, exec (.adcAN (bcd n)) s = .next s1 ∧ exec .daa s1 = .next t ∧
      t.cpu.a = bcd ((m + n + s.flagC.toNat) % 100) ∧ t.flagC = decide (m + n + s.flagC.toNat ≥ 100) ∧
      t.flagZ = decide ((m + n + s.flagC.toNat) % 100 = 0)) ∧
    (∃ s1 t, exec (.sbcAN (bcd n)) s = .next s1 ∧ exec .daa s1 = .next t ∧
      t.cpu.a = bcd ((m + 100 - n - s.flagC.toNat) % 100) ∧ t.flagC = decide (m < n + s.flagC.toNat) ∧
      t.flagZ = decide ((m + 100 - n - s.flagC.toNat) % 100 = 0))

/-- 16-bit INC, DEC and ADD HL, and ADD SP,e: results modulo 65536, the flags, and the internal cycles (D10, D34). -/
def Obligations.Arithmetic16 : Prop :=
  (∀ (p : Pair) (s : State), encode (Instr.incPair p) = [opByte 0 (2 * p.code) 3] ∧
    exec (Instr.incPair p) s = .next (tick 4 (s.setPair p (s.pair p + 1)))) ∧
  (∀ (p : Pair) (s : State), encode (Instr.decPair p) = [opByte 0 (2 * p.code + 1) 3] ∧
    exec (Instr.decPair p) s = .next (tick 4 (s.setPair p (s.pair p - 1)))) ∧
  (∀ (p : Pair) (s : State), encode (Instr.addHLPair p) = [opByte 0 (2 * p.code + 1) 1] ∧
    exec (Instr.addHLPair p) s = .next (tick 4 ((s.setFlags s.flagZ false
      ((s.pair .hl).toNat % 4096 + (s.pair p).toNat % 4096 > 0x0FFF)
      ((s.pair .hl).toNat + (s.pair p).toNat > 0xFFFF)).setPair .hl (s.pair .hl + s.pair p)))) ∧
  (∀ (e : Byte) (s : State), encode (.addSPE e) = [0xE8, e] ∧ exec (.addSPE e) s =
    .next (tick 8 ((s.setFlags false false (s.cpu.sp.toNat % 16 + e.toNat % 16 > 15)
      (s.cpu.sp.toNat % 256 + e.toNat > 255)).setSp (BitVec.ofInt 16 (s.cpu.sp.toNat + e.toInt)))))

/-- RLCA, RRCA, RLA and RRA clear Z, N and H and put the bit shifted out in C. The rotates, shifts and SWAP behind 0xCB, on a
register or the byte at HL (a read and a later write), take Z from the result, clear N and H, and put the bit shifted out in C, 0
for SWAP (D34). -/
def Obligations.RotatesAndShifts : Prop :=
  (∀ (s : State) (a c : Nat), a = s.cpu.a.toNat → c = s.flagC.toNat →
    encode .rlca = [0x07] ∧ encode .rrca = [0x0F] ∧ encode .rla = [0x17] ∧ encode .rra = [0x1F] ∧
    exec .rlca s = .next (s.withAF (BitVec.ofNat 8 (2 * a + a / 128)) false false false (a / 128 = 1)) ∧
    exec .rrca s = .next (s.withAF (BitVec.ofNat 8 (a / 2 + 128 * (a % 2))) false false false (a % 2 = 1)) ∧
    exec .rla s = .next (s.withAF (BitVec.ofNat 8 (2 * a + c)) false false false (a / 128 = 1)) ∧
    exec .rra s = .next (s.withAF (BitVec.ofNat 8 (a / 2 + 128 * c)) false false false (a % 2 = 1))) ∧
  (∀ (op : RotOp) (x : Loc8) (s s1 : State) (v : Byte) (c : Nat), readLoc8 x s = (v, s1) → c = s.flagC.toNat →
    encode (Instr.rot op x) = [0xCB, opByte 0 op.code x.code] ∧
    ∃ (r : Byte) (out : Bool), exec (Instr.rot op x) s = .next (writeLoc8 x r (s1.setFlags (r = 0) false false out)) ∧
      r.toNat = (match op with
        | .rlc => (2 * v.toNat + v.toNat / 128) % 256
        | .rrc => v.toNat / 2 + 128 * (v.toNat % 2)
        | .rl => (2 * v.toNat + c) % 256
        | .rr => v.toNat / 2 + 128 * c
        | .sla => 2 * v.toNat % 256
        | .sra => v.toNat / 2 + 128 * (v.toNat / 128)
        | .swap => v.toNat % 16 * 16 + v.toNat / 16
        | .srl => v.toNat / 2) ∧
      out = (match op with
        | .rlc | .rl | .sla => decide (v.toNat / 128 = 1)
        | .rrc | .rr | .sra | .srl => decide (v.toNat % 2 = 1)
        | .swap => false))

/-- BIT tests a bit and writes nothing back; RES and SET write the operand back with that bit cleared or set and no flag changed. -/
def Obligations.BitResSet : Prop :=
  ∀ (b : Fin 8) (x : Loc8) (s s1 : State) (v : Byte), readLoc8 x s = (v, s1) →
    encode (Instr.bit b x) = [0xCB, opByte 1 b x.code] ∧ encode (Instr.res b x) = [0xCB, opByte 2 b x.code] ∧
    encode (Instr.set b x) = [0xCB, opByte 3 b x.code] ∧
    exec (Instr.bit b x) s = .next (s1.setFlags (!v.getLsbD b) false true s.flagC) ∧
    (∃ r : Byte, exec (Instr.res b x) s = .next (writeLoc8 x r s1) ∧
      ∀ i, r.getLsbD i = if i = b.val then false else v.getLsbD i) ∧
    (∃ r : Byte, exec (Instr.set b x) s = .next (writeLoc8 x r s1) ∧
      ∀ i, r.getLsbD i = if i = b.val then true else v.getLsbD i)

/-- Jumps: JR adds the signed displacement to the PC after the instruction; conditional forms that do not hold change nothing and
spend nothing more; JP HL takes the register value without an internal cycle (D10). -/
def Obligations.Jumps : Prop :=
  (∀ (e : Byte) (s : State), encode (.jr e) = [0x18, e] ∧
    exec (.jr e) s = .next (tick 4 (s.setPc (BitVec.ofInt 16 (s.cpu.pc.toNat + e.toInt))))) ∧
  (∀ (cc : Cond) (e : Byte) (s : State), encode (Instr.jrCond cc e) = [opByte 0 (4 + cc.code) 0, e] ∧
    exec (Instr.jrCond cc e) s =
      .next (if condHolds cc s then tick 4 (s.setPc (BitVec.ofInt 16 (s.cpu.pc.toNat + e.toInt))) else s)) ∧
  (∀ (nn : Word) (s : State), encode (.jp nn) = [0xC3, loByte nn, hiByte nn] ∧ exec (.jp nn) s = .next (tick 4 (s.setPc nn))) ∧
  (∀ (cc : Cond) (nn : Word) (s : State), encode (Instr.jpCond cc nn) = [opByte 3 cc.code 2, loByte nn, hiByte nn] ∧
    exec (Instr.jpCond cc nn) s = .next (if condHolds cc s then tick 4 (s.setPc nn) else s)) ∧
  (∀ s : State, encode .jpHL = [0xE9] ∧ exec .jpHL s = .next (s.setPc (s.pair .hl)))

/-- CALL and RST: an internal cycle, push the PC after the instruction, go to the target. RET and RETI: pop PC, an internal cycle;
RETI then sets IME. Conditional forms that do not hold push and pop nothing; RET cc spends its first internal cycle in both
cases (D10, D11, D6). -/
def Obligations.CallsAndReturns : Prop :=
  (∀ (nn : Word) (s : State), encode (.call nn) = [0xCD, loByte nn, hiByte nn] ∧
    exec (.call nn) s = .next ((memWrite2 (s.cpu.sp - 2) s.cpu.pc ((tick 4 s).setSp (s.cpu.sp - 2))).setPc nn)) ∧
  (∀ (cc : Cond) (nn : Word) (s : State), encode (Instr.callCond cc nn) = [opByte 3 cc.code 4, loByte nn, hiByte nn] ∧
    exec (Instr.callCond cc nn) s = .next (if condHolds cc s then
      (memWrite2 (s.cpu.sp - 2) s.cpu.pc ((tick 4 s).setSp (s.cpu.sp - 2))).setPc nn else s)) ∧
  (∀ (y : Fin 8) (s : State), encode (Instr.rst y) = [opByte 3 y 7] ∧ exec (Instr.rst y) s =
    .next ((memWrite2 (s.cpu.sp - 2) s.cpu.pc ((tick 4 s).setSp (s.cpu.sp - 2))).setPc (BitVec.ofNat 16 (8 * y.val)))) ∧
  (∀ (s u : State) (v : Word), memRead2 s.cpu.sp s = (v, u) → encode .ret = [0xC9] ∧ encode .reti = [0xD9] ∧
    exec .ret s = .next (tick 4 ((u.setSp (s.cpu.sp + 2)).setPc v)) ∧
    exec .reti s = .next ((tick 4 ((u.setSp (s.cpu.sp + 2)).setPc v)).setIme true)) ∧
  (∀ (cc : Cond) (s u : State) (v : Word), memRead2 s.cpu.sp (tick 4 s) = (v, u) →
    encode (Instr.retCond cc) = [opByte 3 cc.code 0] ∧ exec (Instr.retCond cc) s =
      .next (if condHolds cc s then tick 4 ((u.setSp (s.cpu.sp + 2)).setPc v) else tick 4 s))

/-- NOP and STOP do nothing (STOP: D7), HALT sets `halted`, DI and EI write IME at once (D6), and an unrecognised byte latches
itself and the address it was fetched from; that it answers a next state with the latch is D28 (DESIGN CHOICE, log 10). -/
def Obligations.SystemInstructions : Prop :=
  (∀ s : State, encode .nop = [0x00] ∧ exec .nop s = .next s) ∧ (∀ s : State, encode .stop = [0x10] ∧ exec .stop s = .next s) ∧
  (∀ s : State, encode .halt = [0x76] ∧ exec .halt s = .next { s with cpu := { s.cpu with halted := true } }) ∧
  (∀ s : State, encode .di = [0xF3] ∧ exec .di s = .next { s with cpu := { s.cpu with ime := false } }) ∧
  (∀ s : State, encode .ei = [0xFB] ∧ exec .ei s = .next { s with cpu := { s.cpu with ime := true } }) ∧
  (∀ (i : Instr) (b : Byte) (s : State), encode i = [b] → b ∈ unrecognisedBytes →
    exec i s = .next { s with cpu := { s.cpu with fault := some (b, s.cpu.pc - 1) } })

/-! Frames: what an instruction leaves unchanged. -/

/-- Every instruction changes no 8-bit register but those that its encoding names (`regsWritten`), SP only where `writesSp` says,
and no flag but those of `flagsWritten`; F's low nibble, zero before, stays zero. The flags that CPL, SCF and CCF keep are D34
(R236 to R238, log 15). -/
def Obligations.RegisterAndFlagFrame : Prop :=
  ∀ (i : Instr) (s t : State), exec i s = .next t →
    (∀ r, r ∉ regsWritten i → t.reg8 r = s.reg8 r) ∧
    (writesSp i = false → t.cpu.sp = s.cpu.sp) ∧
    (s.cpu.f &&& 0x0F = 0 → t.cpu.f &&& ~~~(flagsWritten i) = s.cpu.f &&& ~~~(flagsWritten i)) ∧
    (i.wellFormed = true → t.cpu.fault = s.cpu.fault)

/-- Every instruction changes no byte of the backing array but IF, nor of cartridge RAM, other than the bytes behind the addresses
that it stores to (`storeAddrs`), computed from the state that its own accesses start in. Unless it stores to IF, IF's bits 3 to 7
stay and its set bits stay set; unless it stores to a timer register, TMA and TAC stay; unless it stores below 0x8000, the
cartridge's control registers and latched RTC registers stay. -/
def Obligations.StoreFrame : Prop :=
  ∀ (i : Instr) (s t : State), exec i s = .next t →
    (∀ k, k ≠ 0xFF0F → (∀ a ∈ storeAddrs i s, backing a s ≠ .mem k) → t.mem.read k = s.mem.read k) ∧
    (∀ off, (∀ a ∈ storeAddrs i s, backing a s ≠ .ram off) → t.cart.ram.read off = s.cart.ram.read off) ∧
    (s.mem.wf = true → (∀ a ∈ storeAddrs i s, backing a s ≠ .mem 0xFF0F) →
      (∀ j, 3 ≤ j → t.ifByte.getLsbD j = s.ifByte.getLsbD j) ∧
      (∀ j, s.ifByte.getLsbD j = true → t.ifByte.getLsbD j = true)) ∧
    ((∀ a ∈ storeAddrs i s, a.toNat < 0xFF04 ∨ 0xFF08 ≤ a.toNat) →
      t.timer.tma = s.timer.tma ∧ t.timer.tac = s.timer.tac) ∧
    ((∀ a ∈ storeAddrs i s, 0x8000 ≤ a.toNat) →
      t.cart.romBankNum = s.cart.romBankNum ∧ t.cart.ramEnabled = s.cart.ramEnabled ∧ t.cart.ramBank = s.cart.ramBank ∧
      t.cart.rtcMapped = s.cart.rtcMapped ∧ t.cart.rtcSel = s.cart.rtcSel ∧ t.cart.latchArmed = s.cart.latchArmed ∧
      t.cart.rtcLatched = s.cart.rtcLatched) ∧
    t.params = s.params

/-- An instruction that stores nothing keeps memory, IF but for the requests that time brings, cartridge RAM and control, TMA and
TAC, as passing time does. -/
def Obligations.StorelessFrame : Prop :=
  ∀ (i : Instr) (s t : State), s.mem.wf = true → exec i s = .next t → storeAddrs i s = [] → MemoryKept s t
end

