-- ==== Sys2Proof/Laws/Cartridge.lean ====
section
/-! SUPPORT. The cartridge controller: which field each command, window access and clock tick writes, and the legal banks and
masked RTC registers that they keep. -/

namespace Sys2Proof.Machine

set_option maxRecDepth 4000 in
theorem mask_six_bits : ∀ v : Byte, (v &&& ~~~0x3F#8 = 0) ↔ v.toNat < 64 := by decide
set_option maxRecDepth 4000 in
theorem mask_five_bits : ∀ v : Byte, (v &&& ~~~0x1F#8 = 0) ↔ v.toNat < 32 := by decide

/-- The masks of R496, register by register. -/
theorem Rtc.masked_iff (r : Rtc) : r.masked = true ↔
    r.seconds.toNat < 64 ∧ r.minutes.toNat < 64 ∧ r.hours.toNat < 32 ∧ r.daysUpper &&& ~~~0xC1#8 = 0 := by
  rw [← mask_six_bits, ← mask_six_bits, ← mask_five_bits]
  simp only [Rtc.masked, decide_eq_true_eq, Fin.forall_fin_succ, Rtc.get, Rtc.mask]
  simp

/-- Setting a masked value keeps the masks. -/
theorem Rtc.set_masked {r : Rtc} (h : r.masked = true) (i : Fin 5) (v : Byte) : (r.set i (v &&& Rtc.mask i)).masked = true := by
  simp only [Rtc.masked, decide_eq_true_eq] at *
  intro j
  have hm : ∀ i : Fin 5, v &&& Rtc.mask i &&& ~~~(Rtc.mask i) = 0 := fun i => by rw [BitVec.and_assoc]; simp
  have hj := h j
  match i, j with
  | 0, 0 => exact hm 0
  | 1, 1 => exact hm 1
  | 2, 2 => exact hm 2
  | 3, 3 => exact hm 3
  | 4, 4 => exact hm 4
  | 0, 1 | 0, 2 | 0, 3 | 0, 4 | 1, 0 | 1, 2 | 1, 3 | 1, 4 | 2, 0 | 2, 1 | 2, 3 | 2, 4 | 3, 0 | 3, 1 | 3, 2 | 3, 4
  | 4, 0 | 4, 1 | 4, 2 | 4, 3 => exact hj

set_option maxRecDepth 4000 in
theorem tickDay_upper : ∀ v : Byte, ((v ||| 0x80#8) &&& 0xC0#8) &&& ~~~0xC1#8 = 0 ∧
    ((v &&& 0xC0#8) ||| 0#8) &&& ~~~0xC1#8 = 0 ∧ ((v &&& 0xC0#8) ||| 1#8) &&& ~~~0xC1#8 = 0 := by decide

@[simp] theorem Rtc.tickDay_seconds (r : Rtc) : r.tickDay.seconds = r.seconds := by
  simp only [Rtc.tickDay]; split <;> rfl
@[simp] theorem Rtc.tickDay_minutes (r : Rtc) : r.tickDay.minutes = r.minutes := by
  simp only [Rtc.tickDay]; split <;> rfl
@[simp] theorem Rtc.tickDay_hours (r : Rtc) : r.tickDay.hours = r.hours := by
  simp only [Rtc.tickDay]; split <;> rfl

theorem Rtc.tickDay_daysUpper (r : Rtc) : r.tickDay.daysUpper &&& ~~~0xC1#8 = 0 := by
  simp only [Rtc.tickDay]
  split
  · exact (tickDay_upper _).1
  · have h2 : r.days + 1 < 512 := by omega
    have : (r.days + 1) / 256 = 0 ∨ (r.days + 1) / 256 = 1 := by omega
    rcases this with h | h
    · simp only [h]; exact (tickDay_upper _).2.1
    · simp only [h]; exact (tickDay_upper _).2.2

/-- One second keeps the registers under their masks (R501). -/
theorem Rtc.tickSecond_masked {r : Rtc} (h : r.masked = true) : r.tickSecond.masked = true := by
  rw [Rtc.masked_iff] at *
  obtain ⟨hs, hm, hh, hd⟩ := h
  simp only [Rtc.tickSecond]
  have succ : ∀ v : Byte, v.toNat < 64 → (v + 1).toNat = v.toNat + 1 := fun v hv => by
    rw [BitVec.toNat_add]; exact Nat.mod_eq_of_lt (by simp; omega)
  split
  · exact ⟨by rw [succ _ hs]; omega, hm, hh, hd⟩
  · split
    · exact ⟨by simp, by rw [succ _ hm]; omega, hh, hd⟩
    · split
      · exact ⟨by simp, by simp, by rw [succ _ (by omega)]; omega, hd⟩
      · exact ⟨by simp, by simp, by simp, Rtc.tickDay_daysUpper _⟩

theorem Rtc.tickSeconds_masked (n : Nat) {r : Rtc} (h : r.masked = true) : (Rtc.tickSeconds n r).masked = true := by
  induction n generalizing r with
  | zero => exact h
  | succ n ih => exact ih (Rtc.tickSecond_masked h)

theorem Rtc.tickSeconds_add (m n : Nat) (r : Rtc) : Rtc.tickSeconds (m + n) r = Rtc.tickSeconds n (Rtc.tickSeconds m r) := by
  induction m generalizing r with
  | zero => simp [Rtc.tickSeconds]
  | succ m ih => rw [show m + 1 + n = m + n + 1 by omega]; simp only [Rtc.tickSeconds, ih]

/-- The clock run for m cycles and then for n is the clock run for m + n (R500), for a period that ticks. -/
theorem Cart.clock_add (p m n : Nat) (hp : 0 < p) (c : Cart) : (c.clock p m).clock p n = c.clock p (m + n) := by
  simp only [Cart.clock, Cart.mk.injEq, true_and, and_true]
  constructor
  · rw [← Rtc.tickSeconds_add]
    congr 1
    have h1 := Nat.div_add_mod (c.rtcAcc + m) p
    rw [show c.rtcAcc + (m + n) = p * ((c.rtcAcc + m) / p) + ((c.rtcAcc + m) % p + n) by omega, Nat.mul_add_div hp]
  · rw [Nat.mod_add_mod, Nat.add_assoc]

@[simp] theorem Cart.clock_ram (p n : Nat) (c : Cart) : (c.clock p n).ram = c.ram := rfl
@[simp] theorem Cart.catchUp_ram (k : Nat) (c : Cart) : (c.catchUp k).ram = c.ram := rfl

/-- A command changes control fields only: no RAM byte, live RTC register, accumulator or stamp. -/
theorem Cart.command_kept (kind : CartKind) (a : Word) (v : Byte) (c : Cart) :
    (c.command kind a v).ram = c.ram ∧ (c.command kind a v).rtcLive = c.rtcLive ∧ (c.command kind a v).rtcAcc = c.rtcAcc ∧
    (c.command kind a v).rtcStamp = c.rtcStamp := by
  unfold Cart.command Cart.select Cart.latch
  cases kind <;> dsimp only <;> (try split_ifs) <;> exact ⟨rfl, rfl, rfl, rfl⟩

/-- A window write changes a RAM byte, or a live RTC register and the accumulator. -/
theorem Cart.windowWrite_kept (a : Word) (v : Byte) (c : Cart) :
    (c.windowWrite a v).romBankNum = c.romBankNum ∧ (c.windowWrite a v).ramEnabled = c.ramEnabled ∧
    (c.windowWrite a v).ramBank = c.ramBank ∧ (c.windowWrite a v).rtcMapped = c.rtcMapped ∧
    (c.windowWrite a v).rtcSel = c.rtcSel ∧ (c.windowWrite a v).rtcLatched = c.rtcLatched ∧
    (c.windowWrite a v).latchArmed = c.latchArmed ∧ (c.windowWrite a v).rtcStamp = c.rtcStamp := by
  unfold Cart.windowWrite Cart.rtcWrite
  split_ifs <;> exact ⟨rfl, rfl, rfl, rfl, rfl, rfl, rfl, rfl⟩

/-- MBC1's low bank write never leaves the low five bits zero (R480). -/
theorem mbc1BankLow_legal (bank : BitVec 7) (v : Byte) : mbc1BankLow bank v &&& 0x1F ≠ 0 := by
  have key : ∀ low : BitVec 5, (let x : BitVec 7 := low.setWidth 7; (if x = 0 then 1#7 else x) &&& 0x1F#7 ≠ 0) := by decide
  have hv : (v &&& 0x1F#8).setWidth 7 = (v.setWidth 5).setWidth 7 := by
    refine BitVec.eq_of_getLsbD_eq fun i h => ?_
    simp only [BitVec.getLsbD_setWidth, BitVec.getLsbD_and]
    interval_cases i <;> simp
  have := key (v.setWidth 5)
  simp only [← hv] at this
  intro h
  apply this
  have h2 : ∀ b x : BitVec 7, ((b &&& 0x60#7) ||| x) &&& 0x1F#7 = x &&& 0x1F#7 := by
    intro b x
    refine BitVec.eq_of_getLsbD_eq fun i h => ?_
    simp only [BitVec.getLsbD_and, BitVec.getLsbD_or]
    interval_cases i <;> simp
  rw [← h2 bank]
  exact h

/-- MBC1's high bank write keeps the low five bits (R481). -/
theorem mbc1BankHigh_low (bank : BitVec 7) (v : Byte) : mbc1BankHigh bank v &&& 0x1F = bank &&& 0x1F := by
  refine BitVec.eq_of_getLsbD_eq fun i h => ?_
  simp only [mbc1BankHigh, BitVec.getLsbD_and, BitVec.getLsbD_or, BitVec.getLsbD_shiftLeft]
  interval_cases i <;> simp

/-- MBC3's bank write never selects bank 0 (R491). -/
theorem mbc3Bank_legal (v : Byte) : mbc3Bank v ≠ 0 := by
  simp only [mbc3Bank]
  split
  · decide
  · assumption

/-- No command leaves an illegal bank (R44). -/
theorem Cart.command_bank (kind : CartKind) (a : Word) (v : Byte) (c : Cart) (h : bankLegal kind c.romBankNum = true) :
    bankLegal kind (c.command kind a v).romBankNum = true := by
  have hs : ∀ t, (c.select t v).romBankNum = c.romBankNum := fun t => by unfold Cart.select; split_ifs <;> rfl
  have hl : (c.latch v).romBankNum = c.romBankNum := by unfold Cart.latch; split_ifs <;> rfl
  cases kind <;> simp only [Cart.command]
  · exact h
  · simp only [bankLegal, decide_eq_true_eq] at h ⊢
    split_ifs
    exacts [h, mbc1BankLow_legal _ _, by rw [mbc1BankHigh_low]; exact h, h]
  · simp only [bankLegal, decide_eq_true_eq] at h ⊢
    split_ifs
    exacts [h, mbc3Bank_legal v, by rw [hs]; exact h, h]
  · simp only [bankLegal, decide_eq_true_eq] at h ⊢
    split_ifs
    exacts [h, mbc3Bank_legal v, by rw [hs]; exact h, by rw [hl]; exact h]

/-- Only a timer cartridge's command maps an RTC register (R505). -/
theorem Cart.command_rtcMapped (kind : CartKind) (a : Word) (v : Byte) (c : Cart)
    (h : c.rtcMapped = true → kind = .mbc3Timer) : (c.command kind a v).rtcMapped = true → kind = .mbc3Timer := by
  have hs : (c.select false v).rtcMapped = true → c.rtcMapped = true := by
    unfold Cart.select
    intro hm
    split at hm
    · exact absurd hm Bool.false_ne_true
    · split at hm <;> exact hm
  cases kind <;> dsimp only [Cart.command]
  · exact h
  · refine fun hm => h ?_
    split at hm <;> (try split at hm) <;> (try split at hm) <;> exact hm
  · refine fun hm => h ?_
    split at hm <;> (try split at hm) <;> (try split at hm) <;> first | exact hm | exact hs hm
  · exact fun _ => rfl

/-- What a command leaves latched is the old copy or the live registers (R493). -/
theorem Cart.command_latched (kind : CartKind) (a : Word) (v : Byte) (c : Cart) :
    (c.command kind a v).rtcLatched = c.rtcLatched ∨ (c.command kind a v).rtcLatched = c.rtcLive := by
  unfold Cart.command Cart.select Cart.latch
  cases kind <;> dsimp only <;> (try split_ifs) <;> first | exact .inl rfl | exact .inr rfl

end Sys2Proof.Machine
end

