-- ==== Sys2Proof/Laws/Memory.lean ====
section
/-! SUPPORT. Byte arrays: a read after a write, and the canonical form that every write keeps. -/

namespace Sys2Proof.Machine

@[simp] theorem Memory.read_nil (a : Nat) : Memory.read [] a = Memory.unlisted := rfl

/-- A write leaves every other address alone. -/
theorem Memory.read_write_other (m : Memory) (a b : Nat) (v : Byte) (h : b ≠ a) : (m.write a v).read b = m.read b := by
  induction m with
  | nil => simp only [Memory.write]; split <;> simp [Memory.read, Ne.symm h]
  | cons x m ih =>
    obtain ⟨k, w⟩ := x
    simp only [Memory.write]
    split
    · split
      · rfl
      · simp [Memory.read, Ne.symm h]
    · split
      · rename_i hk
        subst hk
        split <;> simp [Memory.read, Ne.symm h]
      · simp [Memory.read, ih]

theorem Memory.wfFrom_mono {lo lo' : Nat} {m : Memory} (h : lo' ≤ lo) (hm : m.wfFrom lo = true) : m.wfFrom lo' = true := by
  cases m with
  | nil => rfl
  | cons x m => simp only [Memory.wfFrom, Bool.and_eq_true, decide_eq_true_eq] at *; exact ⟨⟨by omega, hm.1.2⟩, hm.2⟩

theorem Memory.read_below {lo : Nat} {m : Memory} (hm : m.wfFrom lo = true) (a : Nat) (h : a < lo) :
    m.read a = Memory.unlisted := by
  induction m generalizing lo with
  | nil => rfl
  | cons x m ih =>
    simp only [Memory.wfFrom, Bool.and_eq_true, decide_eq_true_eq] at hm
    simp only [Memory.read]
    rw [if_neg (by omega)]
    exact ih hm.2 (by omega)

theorem Memory.read_write_same_from {lo : Nat} {m : Memory} (hm : m.wfFrom lo = true) (a : Nat) (v : Byte) :
    (m.write a v).read a = v := by
  induction m generalizing lo with
  | nil => simp only [Memory.write]; split <;> simp [Memory.read, *]
  | cons x m ih =>
    obtain ⟨k, w⟩ := x
    have hw := hm
    simp only [Memory.wfFrom, Bool.and_eq_true, decide_eq_true_eq] at hm
    simp only [Memory.write]
    split
    · split
      · subst v; exact Memory.read_below (lo := k) (by
          simp only [Memory.wfFrom, Bool.and_eq_true, decide_eq_true_eq]; exact ⟨⟨Nat.le_refl _, hm.1.2⟩, hm.2⟩) a ‹_›
      · simp [Memory.read]
    · split
      · split
        · subst v; exact Memory.read_below hm.2 a (by omega)
        · simp [Memory.read]
      · simp only [Memory.read]
        rw [if_neg (by omega)]
        exact ih hm.2

/-- A read after a write to the same address gives the value written. -/
theorem Memory.read_write_same {m : Memory} (hm : m.wf = true) (a : Nat) (v : Byte) : (m.write a v).read a = v :=
  Memory.read_write_same_from hm a v

theorem Memory.write_wfFrom {lo : Nat} {m : Memory} (hm : m.wfFrom lo = true) (a : Nat) (v : Byte) (h : lo ≤ a) :
    (m.write a v).wfFrom lo = true := by
  induction m generalizing lo with
  | nil => simp only [Memory.write]; split <;> simp [Memory.wfFrom, *]
  | cons x m ih =>
    obtain ⟨k, w⟩ := x
    have hw := hm
    simp only [Memory.wfFrom, Bool.and_eq_true, decide_eq_true_eq] at hm
    simp only [Memory.write]
    split
    · split
      · exact hw
      · simp only [Memory.wfFrom, Bool.and_eq_true, decide_eq_true_eq]
        exact ⟨⟨h, ‹_›⟩, ⟨by omega, hm.1.2⟩, hm.2⟩
    · split
      · rename_i hk
        subst hk
        split
        · exact Memory.wfFrom_mono (by omega) hm.2
        · simp only [Memory.wfFrom, Bool.and_eq_true, decide_eq_true_eq]; exact ⟨⟨h, ‹_›⟩, hm.2⟩
      · simp only [Memory.wfFrom, Bool.and_eq_true, decide_eq_true_eq]
        exact ⟨hm.1, ih hm.2 (by omega)⟩

/-- Every write keeps the canonical form. -/
theorem Memory.write_wf {m : Memory} (hm : m.wf = true) (a : Nat) (v : Byte) : (m.write a v).wf = true :=
  Memory.write_wfFrom hm a v (Nat.zero_le a)

/-- A write inside a range of addresses lists nothing outside it. -/
theorem Memory.write_within {lo hi : Nat} {m : Memory} (hm : m.within lo hi = true) (a : Nat) (v : Byte)
    (h : lo ≤ a ∧ a < hi) : (m.write a v).within lo hi = true := by
  induction m with
  | nil => simp only [Memory.write]; split <;> simp [Memory.within, *]
  | cons x m ih =>
    obtain ⟨k, w⟩ := x
    simp only [Memory.within, List.all_cons, Bool.and_eq_true, decide_eq_true_eq] at hm ih
    simp only [Memory.write]
    split_ifs <;> simp only [Memory.within, List.all_cons, Bool.and_eq_true, decide_eq_true_eq]
    exacts [hm, ⟨h, hm⟩, hm.2, ⟨h, hm.2⟩, ⟨hm.1, ih hm.2⟩]

/-- Byte arrays in canonical form that read alike are equal data. -/
theorem Memory.ext_read {lo : Nat} {m m' : Memory} (hm : m.wfFrom lo = true) (hm' : m'.wfFrom lo = true)
    (h : ∀ a, m.read a = m'.read a) : m = m' := by
  induction m generalizing lo m' with
  | nil =>
    cases m' with
    | nil => rfl
    | cons x m' =>
      simp only [Memory.wfFrom, Bool.and_eq_true, decide_eq_true_eq] at hm'
      have := h x.1
      simp only [Memory.read, if_true] at this
      exact absurd this.symm hm'.1.2
  | cons x m ih =>
    have hx := hm
    simp only [Memory.wfFrom, Bool.and_eq_true, decide_eq_true_eq] at hm
    cases m' with
    | nil =>
      have := h x.1
      simp only [Memory.read, if_true] at this
      exact absurd this hm.1.2
    | cons y m' =>
      have hy := hm'
      simp only [Memory.wfFrom, Bool.and_eq_true, decide_eq_true_eq] at hm'
      have h1 : x.1 = y.1 := by
        rcases Nat.lt_trichotomy x.1 y.1 with hlt | heq | hgt
        · have := h x.1
          simp only [Memory.read, if_true, if_neg (Nat.ne_of_gt hlt)] at this
          rw [Memory.read_below hm'.2 x.1 (by omega)] at this
          exact absurd this hm.1.2
        · exact heq
        · have := h y.1
          simp only [Memory.read, if_true, if_neg (Nat.ne_of_gt hgt)] at this
          rw [Memory.read_below hm.2 y.1 (by omega)] at this
          exact absurd this.symm hm'.1.2
      have h2 : x.2 = y.2 := by
        have := h x.1
        simpa [Memory.read, h1] using this
      have h3 : m = m' := by
        refine ih hm.2 (h1 ▸ hm'.2) fun a => ?_
        by_cases ha : a < x.1 + 1
        · rw [Memory.read_below hm.2 a ha, Memory.read_below hm'.2 a (h1 ▸ ha)]
        · have := h a
          simp only [Memory.read] at this
          rwa [if_neg (by omega), if_neg (by omega)] at this
      rw [h3, Prod.ext h1 h2]

/-! The memory after reset -/

section
variable (p : Params) (rv : ResetValues) (init : InitMem)
theorem State.resetWith_bytes (k : Nat) (h : k ≠ 0xFF0F) (h' : k ≠ 0xFFFF) :
    (State.resetWith p rv init).mem.read k = init.mem.read k :=
  (Memory.read_write_other _ _ _ _ h').trans (Memory.read_write_other _ _ _ _ h)
theorem State.resetWith_if (h : init.mem.wf = true) : (State.resetWith p rv init).mem.read 0xFF0F = rv.ifByte :=
  (Memory.read_write_other _ _ _ _ (by decide)).trans (Memory.read_write_same h _ _)
theorem State.resetWith_ie (h : init.mem.wf = true) : (State.resetWith p rv init).mem.read 0xFFFF = rv.ieByte :=
  Memory.read_write_same (Memory.write_wf h _ _) _ _
theorem State.resetWith_wf (h : init.mem.wf = true) : (State.resetWith p rv init).mem.wf = true :=
  Memory.write_wf (Memory.write_wf h _ _) _ _
theorem State.resetWith_range (h : init.mem.within 0x8000 0x10000 = true) :
    (State.resetWith p rv init).mem.within 0x8000 0x10000 = true :=
  Memory.write_within (Memory.write_within h _ _ (by decide)) _ _ (by decide)
end

end Sys2Proof.Machine
end

