-- ==== Sys2Proof/Laws/Timer.lean ====
section
/-! SUPPORT. The timer: what an increment, an edge check, a cycle and several cycles change, and what they keep. -/

namespace Sys2Proof.Machine

@[simp] theorem Timer.incTima_counter (t : Timer) : t.incTima.counter = t.counter := by unfold Timer.incTima; split <;> rfl
@[simp] theorem Timer.incTima_tma (t : Timer) : t.incTima.tma = t.tma := by unfold Timer.incTima; split <;> rfl
@[simp] theorem Timer.incTima_tac (t : Timer) : t.incTima.tac = t.tac := by unfold Timer.incTima; split <;> rfl

theorem Timer.incTima_delay (t : Timer) (h : t.reloadDelay ≤ 4) : t.incTima.reloadDelay ≤ 4 := by
  unfold Timer.incTima; split <;> simp [h]

@[simp] theorem Timer.edgeCheck_counter (t : Timer) : t.edgeCheck.counter = t.counter := by
  simp only [Timer.edgeCheck]; split <;> simp
@[simp] theorem Timer.edgeCheck_tma (t : Timer) : t.edgeCheck.tma = t.tma := by
  simp only [Timer.edgeCheck]; split <;> simp
@[simp] theorem Timer.edgeCheck_tac (t : Timer) : t.edgeCheck.tac = t.tac := by
  simp only [Timer.edgeCheck]; split <;> simp
@[simp] theorem Timer.edgeCheck_prevSig (t : Timer) : t.edgeCheck.prevSig = t.signal := by
  simp only [Timer.edgeCheck]

theorem Timer.signal_congr {t t' : Timer} (h : t.counter = t'.counter) (h' : t.tac = t'.tac) : t.signal = t'.signal := by
  simp only [Timer.signal, h, h']

/-- After an edge check the detector remembers the present signal (R444). -/
theorem Timer.edgeCheck_edge (t : Timer) : t.edgeCheck.prevSig = t.edgeCheck.signal :=
  (Timer.edgeCheck_prevSig t).trans (Timer.signal_congr (by simp) (by simp))

theorem Timer.edgeCheck_delay (t : Timer) (h : t.reloadDelay ≤ 4) : t.edgeCheck.reloadDelay ≤ 4 := by
  simp only [Timer.edgeCheck]; split <;> simp [h, Timer.incTima_delay]

@[simp] theorem Timer.countdown_counter (t : Timer) : t.countdown.1.counter = t.counter := by
  simp only [Timer.countdown]; split <;> rfl
@[simp] theorem Timer.countdown_tma (t : Timer) : t.countdown.1.tma = t.tma := by
  simp only [Timer.countdown]; split <;> rfl
@[simp] theorem Timer.countdown_tac (t : Timer) : t.countdown.1.tac = t.tac := by
  simp only [Timer.countdown]; split <;> rfl

theorem Timer.countdown_delay (t : Timer) (h : t.reloadDelay ≤ 4) : t.countdown.1.reloadDelay ≤ 4 := by
  simp only [Timer.countdown]; split
  · exact h
  · exact Nat.zero_le 4
  · simp_all; omega

/-- The interrupt is requested exactly when the reload delay stands at 1 (R446). -/
theorem Timer.countdown_request (t : Timer) : t.countdown.2 = decide (t.reloadDelay = 1) := by
  simp only [Timer.countdown]; split <;> simp [*]

@[simp] theorem Timer.cycle_counter (t : Timer) : t.cycle.1.counter = t.counter + 1 := by simp [Timer.cycle]
@[simp] theorem Timer.cycle_tma (t : Timer) : t.cycle.1.tma = t.tma := by simp [Timer.cycle]
@[simp] theorem Timer.cycle_tac (t : Timer) : t.cycle.1.tac = t.tac := by simp [Timer.cycle]
theorem Timer.cycle_request (t : Timer) : t.cycle.2 = decide (t.reloadDelay = 1) := by
  simp [Timer.cycle, Timer.countdown_request]
theorem Timer.cycle_edge (t : Timer) : t.cycle.1.prevSig = t.cycle.1.signal := Timer.edgeCheck_edge _
theorem Timer.cycle_delay (t : Timer) (h : t.reloadDelay ≤ 4) : t.cycle.1.reloadDelay ≤ 4 :=
  Timer.edgeCheck_delay _ (Timer.countdown_delay t h)

@[simp] theorem Timer.steps_zero (t : Timer) : Timer.steps 0 t = (t, false) := rfl

theorem Timer.steps_succ (n : Nat) (t : Timer) :
    Timer.steps (n + 1) t = ((Timer.steps n t.cycle.1).1, t.cycle.2 || (Timer.steps n t.cycle.1).2) := rfl

/-- Cycles are applied one at a time, so running m and then n is running m + n (R448). -/
theorem Timer.steps_add (m n : Nat) (t : Timer) :
    Timer.steps (m + n) t =
      ((Timer.steps n (Timer.steps m t).1).1, (Timer.steps m t).2 || (Timer.steps n (Timer.steps m t).1).2) := by
  induction m generalizing t with
  | zero => simp
  | succ m ih => rw [show m + 1 + n = m + n + 1 by omega, Timer.steps_succ, ih, Timer.steps_succ]; simp [Bool.or_assoc]

@[simp] theorem Timer.steps_tma (n : Nat) (t : Timer) : (Timer.steps n t).1.tma = t.tma := by
  induction n generalizing t with
  | zero => rfl
  | succ n ih => rw [Timer.steps_succ]; simp [ih]

@[simp] theorem Timer.steps_tac (n : Nat) (t : Timer) : (Timer.steps n t).1.tac = t.tac := by
  induction n generalizing t with
  | zero => rfl
  | succ n ih => rw [Timer.steps_succ]; simp [ih]

/-- The counter counts cycles modulo 65536 (R441). -/
theorem Timer.steps_counter (n : Nat) (t : Timer) : (Timer.steps n t).1.counter = t.counter + BitVec.ofNat 16 n := by
  induction n generalizing t with
  | zero => simp
  | succ n ih =>
    rw [Timer.steps_succ]
    simp only [ih, Timer.cycle_counter, BitVec.ofNat_add]
    rw [BitVec.add_assoc, BitVec.add_comm (BitVec.ofNat 16 n)]
    rfl

theorem Timer.steps_edge (n : Nat) (t : Timer) (h : t.prevSig = t.signal) :
    (Timer.steps n t).1.prevSig = (Timer.steps n t).1.signal := by
  induction n generalizing t with
  | zero => exact h
  | succ n ih => rw [Timer.steps_succ]; exact ih _ (Timer.cycle_edge t)

theorem Timer.steps_delay (n : Nat) (t : Timer) (h : t.reloadDelay ≤ 4) : (Timer.steps n t).1.reloadDelay ≤ 4 := by
  induction n generalizing t with
  | zero => exact h
  | succ n ih => rw [Timer.steps_succ]; exact ih _ (Timer.cycle_delay t h)

theorem Timer.write_delay (t : Timer) (a : Word) (v : Byte) (h : t.reloadDelay ≤ 4) : (t.write a v).reloadDelay ≤ 4 := by
  unfold Timer.write
  split
  exacts [Timer.edgeCheck_delay _ h, h, h, Timer.edgeCheck_delay _ h]

theorem Timer.write_edge (t : Timer) (a : Word) (v : Byte) (h : t.prevSig = t.signal) :
    (t.write a v).prevSig = (t.write a v).signal := by
  unfold Timer.write
  split
  exacts [Timer.edgeCheck_edge _, h, h, Timer.edgeCheck_edge _]

end Sys2Proof.Machine
end

