-- ==== Sys2Proof/Laws/Bus.lean ====
section
/-! SUPPORT. The address decoder: what passing time changes (`tick`), what a routed read and a routed write change, and the
same of the charged accesses. Later proofs cite these and do not unfold the operations. -/

namespace Sys2Proof.Machine

section
variable (v : Byte) (s : State)
@[simp] theorem setIf_cpu : (s.setIf v).cpu = s.cpu := rfl
@[simp] theorem setIf_timer : (s.setIf v).timer = s.timer := rfl
@[simp] theorem setIf_cart : (s.setIf v).cart = s.cart := rfl
@[simp] theorem setIf_params : (s.setIf v).params = s.params := rfl
@[simp] theorem setIf_draws : (s.setIf v).draws = s.draws := rfl
@[simp] theorem request_cpu : (s.request v).cpu = s.cpu := rfl
@[simp] theorem request_timer : (s.request v).timer = s.timer := rfl
@[simp] theorem request_cart : (s.request v).cart = s.cart := rfl
@[simp] theorem request_params : (s.request v).params = s.params := rfl
@[simp] theorem request_draws : (s.request v).draws = s.draws := rfl
theorem request_mem : (s.request v).mem = s.mem.write 0xFF0F (s.ifByte ||| v) := rfl
theorem request_bytes (k : Nat) (h : k ≠ 0xFF0F) : (s.request v).mem.read k = s.mem.read k :=
  Memory.read_write_other _ _ _ _ h
theorem request_ifByte (h : s.mem.wf = true) : (s.request v).ifByte = s.ifByte ||| v := Memory.read_write_same h _ _
theorem request_wf (h : s.mem.wf = true) : (s.request v).mem.wf = true := Memory.write_wf h _ _
theorem request_range (h : s.mem.within 0x8000 0x10000 = true) : (s.request v).mem.within 0x8000 0x10000 = true :=
  Memory.write_within h _ _ (by decide)
end

/-! `timerStep` -/

theorem timerStep_eq (n : Nat) (s : State) : timerStep n s =
    if (Timer.steps n s.timer).2 then State.request 0x04 { s with timer := (Timer.steps n s.timer).1 }
    else { s with timer := (Timer.steps n s.timer).1 } := rfl

section
variable (n : Nat) (s : State)
@[simp] theorem timerStep_cpu : (timerStep n s).cpu = s.cpu := by rw [timerStep_eq]; split <;> rfl
@[simp] theorem timerStep_timer : (timerStep n s).timer = (Timer.steps n s.timer).1 := by rw [timerStep_eq]; split <;> rfl
@[simp] theorem timerStep_cart : (timerStep n s).cart = s.cart := by rw [timerStep_eq]; split <;> rfl
@[simp] theorem timerStep_params : (timerStep n s).params = s.params := by rw [timerStep_eq]; split <;> rfl
@[simp] theorem timerStep_draws : (timerStep n s).draws = s.draws := by rw [timerStep_eq]; split <;> rfl
theorem timerStep_mem : (timerStep n s).mem =
    if (Timer.steps n s.timer).2 then s.mem.write 0xFF0F (s.ifByte ||| 0x04) else s.mem := by
  rw [timerStep_eq]; split <;> rfl
end

/-! `cartStep` -/

section
variable (n : Nat) (s : State)
@[simp] theorem cartStep_cpu : (cartStep n s).cpu = s.cpu := by
  unfold cartStep; split <;> (try rfl); split <;> (try rfl); split <;> rfl
@[simp] theorem cartStep_timer : (cartStep n s).timer = s.timer := by
  unfold cartStep; split <;> (try rfl); split <;> (try rfl); split <;> rfl
@[simp] theorem cartStep_mem : (cartStep n s).mem = s.mem := by
  unfold cartStep; split <;> (try rfl); split <;> (try rfl); split <;> rfl
@[simp] theorem cartStep_params : (cartStep n s).params = s.params := by
  unfold cartStep; split <;> (try rfl); split <;> (try rfl); split <;> rfl
@[simp] theorem cartStep_ram : (cartStep n s).cart.ram = s.cart.ram := by
  unfold cartStep; split <;> (try rfl); split <;> (try rfl); split <;> rfl
/-- The clock advances live RTC registers, the accumulator and the stamp, and no other field of the cartridge. -/
theorem cartStep_control :
    (cartStep n s).cart.romBankNum = s.cart.romBankNum ∧ (cartStep n s).cart.ramEnabled = s.cart.ramEnabled ∧
    (cartStep n s).cart.ramBank = s.cart.ramBank ∧ (cartStep n s).cart.rtcMapped = s.cart.rtcMapped ∧
    (cartStep n s).cart.rtcSel = s.cart.rtcSel ∧ (cartStep n s).cart.latchArmed = s.cart.latchArmed ∧
    (cartStep n s).cart.rtcLatched = s.cart.rtcLatched := by
  have refl : s.cart.romBankNum = s.cart.romBankNum ∧ s.cart.ramEnabled = s.cart.ramEnabled ∧
    s.cart.ramBank = s.cart.ramBank ∧ s.cart.rtcMapped = s.cart.rtcMapped ∧
    s.cart.rtcSel = s.cart.rtcSel ∧ s.cart.latchArmed = s.cart.latchArmed ∧
    s.cart.rtcLatched = s.cart.rtcLatched := ⟨rfl, rfl, rfl, rfl, rfl, rfl, rfl⟩
  unfold cartStep; split <;> (try exact refl); split <;> (try exact refl); split <;> exact refl
theorem cartStep_live_masked (h : s.cart.rtcLive.masked = true) : (cartStep n s).cart.rtcLive.masked = true := by
  unfold cartStep; split <;> (try exact h); split <;> (try exact h); split <;> exact Rtc.tickSeconds_masked _ h
theorem cartStep_acc (h : s.cart.rtcAcc < s.params.rtcCyclesPerTick) :
    (cartStep n s).cart.rtcAcc < s.params.rtcCyclesPerTick := by
  unfold cartStep; split <;> (try exact h); split <;> (try exact h); split
  · exact Nat.mod_lt _ (Nat.lt_of_le_of_lt (Nat.zero_le _) h)
  · exact h
end

/-! `extStep` -/

section
variable (s : State)
@[simp] theorem extStep_cpu : (extStep s).cpu = s.cpu := by unfold extStep; split <;> rfl
@[simp] theorem extStep_timer : (extStep s).timer = s.timer := by unfold extStep; split <;> rfl
@[simp] theorem extStep_cart : (extStep s).cart = s.cart := by unfold extStep; split <;> rfl
@[simp] theorem extStep_params : (extStep s).params = s.params := by unfold extStep; split <;> rfl
theorem extStep_stub (h : s.params.ext = .stub) : extStep s = s := by unfold extStep; rw [h]
theorem extStep_mem : (extStep s).mem = s.mem ∨ s.params.ext = .collaborators ∧
    (extStep s).mem = s.mem.write 0xFF0F (s.ifByte ||| (Config.extRequest s.draws).setWidth 8) := by
  unfold extStep; split
  · exact .inl rfl
  · exact .inr ⟨‹_›, rfl⟩
end

/-! `tick` -/

section
variable (n : Nat) (s : State)
/-- Of the CPU, passing time changes the cycle accumulator only (R94). -/
@[simp] theorem tick_cpu : (tick n s).cpu = { s.cpu with cyc := s.cpu.cyc + n } := by simp [tick]
@[simp] theorem tick_timer : (tick n s).timer = (Timer.steps n s.timer).1 := by simp [tick]
@[simp] theorem tick_params : (tick n s).params = s.params := by simp [tick]
@[simp] theorem tick_ram : (tick n s).cart.ram = s.cart.ram := by simp [tick]
theorem tick_control :
    (tick n s).cart.romBankNum = s.cart.romBankNum ∧ (tick n s).cart.ramEnabled = s.cart.ramEnabled ∧
    (tick n s).cart.ramBank = s.cart.ramBank ∧ (tick n s).cart.rtcMapped = s.cart.rtcMapped ∧
    (tick n s).cart.rtcSel = s.cart.rtcSel ∧ (tick n s).cart.latchArmed = s.cart.latchArmed ∧
    (tick n s).cart.rtcLatched = s.cart.rtcLatched := by
  have h := cartStep_control n (timerStep n { s with cpu := { s.cpu with cyc := s.cpu.cyc + n } })
  simpa [tick] using h
theorem tick_live_masked (h : s.cart.rtcLive.masked = true) : (tick n s).cart.rtcLive.masked = true := by
  rw [tick, extStep_cart]; exact cartStep_live_masked _ _ (by simpa using h)
theorem tick_acc (h : s.cart.rtcAcc < s.params.rtcCyclesPerTick) : (tick n s).cart.rtcAcc < s.params.rtcCyclesPerTick := by
  have := cartStep_acc n (timerStep n { s with cpu := { s.cpu with cyc := s.cpu.cyc + n } }) (by simpa using h)
  rw [tick, extStep_cart]; simpa using this

/-- With the stub, passing time writes memory only when the timer requests its interrupt (R446). -/
theorem tick_mem_stub (h : s.params.ext = .stub) : (tick n s).mem =
    if (Timer.steps n s.timer).2 then s.mem.write 0xFF0F (s.ifByte ||| 0x04) else s.mem := by
  rw [tick, extStep_stub _ (by simpa using h), cartStep_mem, timerStep_mem]; rfl

theorem timerStep_bytes (k : Nat) (h : k ≠ 0xFF0F) : (timerStep n s).mem.read k = s.mem.read k := by
  rw [timerStep_mem]; split
  · exact Memory.read_write_other _ _ _ _ h
  · rfl

/-- Of the backing array, passing time changes IF only. -/
theorem tick_bytes (k : Nat) (h : k ≠ 0xFF0F) : (tick n s).mem.read k = s.mem.read k := by
  rw [tick]
  have h1 : ∀ x : State, (extStep x).mem.read k = x.mem.read k := fun x => by
    rcases extStep_mem x with hx | ⟨_, hx⟩
    · rw [hx]
    · rw [hx, Memory.read_write_other _ _ _ _ h]
  rw [h1, cartStep_mem, timerStep_bytes _ _ _ h]

theorem timerStep_wf (h : s.mem.wf = true) : (timerStep n s).mem.wf = true := by
  rw [timerStep_mem]; split
  · exact Memory.write_wf h _ _
  · exact h

theorem tick_wf (h : s.mem.wf = true) : (tick n s).mem.wf = true := by
  rw [tick]
  have h1 : ∀ x : State, x.mem.wf = true → (extStep x).mem.wf = true := fun x hw => by
    rcases extStep_mem x with hx | ⟨_, hx⟩
    · rw [hx]; exact hw
    · rw [hx]; exact Memory.write_wf hw _ _
  apply h1; rw [cartStep_mem]; exact timerStep_wf _ _ h

theorem tick_range (h : s.mem.within 0x8000 0x10000 = true) : (tick n s).mem.within 0x8000 0x10000 = true := by
  rw [tick]
  have h1 : ∀ x : State, x.mem.within 0x8000 0x10000 = true → (extStep x).mem.within 0x8000 0x10000 = true := fun x hw => by
    rcases extStep_mem x with hx | ⟨_, hx⟩
    · rw [hx]; exact hw
    · rw [hx]; exact Memory.write_within hw _ _ (by decide)
  apply h1; rw [cartStep_mem, timerStep_mem]; split
  · exact Memory.write_within h _ _ (by decide)
  · exact h

/-- In IF, passing time sets the Timer's bit when a reload falls due, with open collaborators also VBlank's and LCDSTAT's, and
clears none. -/
theorem tick_if (h : s.mem.wf = true) : ∃ m : Byte, (tick n s).ifByte = s.ifByte ||| m ∧
    (∀ i, 3 ≤ i → m.getLsbD i = false) ∧ (s.params.ext = .stub → ∀ i, i ≠ 2 → m.getLsbD i = false) ∧
    m.getLsbD 2 = (Timer.steps n s.timer).2 := by
  have b4 : ∀ i, i ≠ 2 → (0x04#8).getLsbD i = false := by
    intro i hi
    by_cases h8 : i < 8
    · interval_cases i <;> first | rfl | exact absurd rfl hi
    · exact BitVec.getLsbD_of_ge _ _ (by omega)
  have ht : ∃ m : Byte, (timerStep n { s with cpu := { s.cpu with cyc := s.cpu.cyc + n } }).ifByte = s.ifByte ||| m ∧
      (∀ i, i ≠ 2 → m.getLsbD i = false) ∧ m.getLsbD 2 = (Timer.steps n s.timer).2 := by
    by_cases hr : (Timer.steps n s.timer).2 = true
    · refine ⟨0x04, ?_, b4, hr ▸ rfl⟩
      simp only [State.ifByte, timerStep_mem, hr, if_true]
      exact Memory.read_write_same h _ _
    · refine ⟨0, ?_, fun i _ => by simp, by simpa using hr⟩
      simp only [State.ifByte, timerStep_mem, hr]
      simp
  obtain ⟨m, hm, hb, h2⟩ := ht
  have hw := timerStep_wf n { s with cpu := { s.cpu with cyc := s.cpu.cyc + n } } h
  rw [tick]
  rcases extStep_mem (cartStep n (timerStep n { s with cpu := { s.cpu with cyc := s.cpu.cyc + n } })) with hx | ⟨he, hx⟩
  · refine ⟨m, ?_, fun i hi => hb i (by omega), fun _ => hb, h2⟩
    rw [State.ifByte, hx, cartStep_mem]; exact hm
  · refine ⟨m ||| (Config.extRequest (cartStep n (timerStep n { s with cpu := { s.cpu with cyc := s.cpu.cyc + n } })).draws).setWidth 8,
      ?_, fun i hi => ?_, fun hs => ?_, ?_⟩
    · rw [State.ifByte, hx, cartStep_mem, Memory.read_write_same hw, ← BitVec.or_assoc, ← hm, State.ifByte, cartStep_mem]
      rfl
    · rw [BitVec.getLsbD_or, hb i (by omega), BitVec.getLsbD_setWidth, BitVec.getLsbD_of_ge _ i (by omega)]; simp
    · simp only [cartStep_params, timerStep_params] at he
      rw [hs] at he; exact absurd he (by decide)
    · rw [BitVec.getLsbD_or, h2, BitVec.getLsbD_setWidth, BitVec.getLsbD_of_ge _ 2 (by omega)]; simp
end

/-! `MemoryKept` -/

theorem MemoryKept.refl (s : State) : MemoryKept s s :=
  ⟨rfl, fun _ _ => rfl, fun _ _ => rfl, fun _ h => h, fun _ _ _ => rfl, rfl, ⟨rfl, rfl, rfl, rfl, rfl, rfl, rfl⟩, rfl, rfl⟩

theorem MemoryKept.trans {s t u : State} (h : MemoryKept s t) (h' : MemoryKept t u) : MemoryKept s u where
  params := h'.params.trans h.params
  bytes k hk := (h'.bytes k hk).trans (h.bytes k hk)
  if_high i hi := (h'.if_high i hi).trans (h.if_high i hi)
  if_kept i hi := h'.if_kept i (h.if_kept i hi)
  if_stub hs i hi := (h'.if_stub (h.params ▸ hs) i hi).trans (h.if_stub hs i hi)
  ram := h'.ram.trans h.ram
  control := by
    obtain ⟨a, b, c, d, e, f, g⟩ := h.control
    obtain ⟨a', b', c', d', e', f', g'⟩ := h'.control
    exact ⟨a'.trans a, b'.trans b, c'.trans c, d'.trans d, e'.trans e, f'.trans f, g'.trans g⟩
  tma := h'.tma.trans h.tma
  tac := h'.tac.trans h.tac

/-- A change of CPU registers and draws alone keeps memory. -/
theorem MemoryKept.of_eq {s t : State} (hm : t.mem = s.mem) (hc : t.cart = s.cart) (ht : t.timer = s.timer)
    (hp : t.params = s.params) : MemoryKept s t := by
  refine ⟨hp, fun _ _ => by rw [hm], fun _ _ => by rw [State.ifByte, hm, State.ifByte], fun _ h => ?_, fun _ _ _ => ?_, by rw [hc], ?_, by rw [ht],
    by rw [ht]⟩
  · rw [State.ifByte, hm]; exact h
  · rw [State.ifByte, hm, State.ifByte]
  · rw [hc]; exact ⟨rfl, rfl, rfl, rfl, rfl, rfl, rfl⟩

theorem tick_kept (n : Nat) (s : State) (h : s.mem.wf = true) : MemoryKept s (tick n s) where
  params := tick_params n s
  bytes k hk := tick_bytes n s k hk
  if_high i hi := by
    obtain ⟨m, hm, hb, _⟩ := tick_if n s h
    rw [hm, BitVec.getLsbD_or, hb i hi, Bool.or_false]
  if_kept i hi := by
    obtain ⟨m, hm, _⟩ := tick_if n s h
    rw [hm, BitVec.getLsbD_or, hi, Bool.true_or]
  if_stub hs i hi := by
    obtain ⟨m, hm, _, hb, _⟩ := tick_if n s h
    rw [hm, BitVec.getLsbD_or, hb hs i hi, Bool.or_false]
  ram := tick_ram n s
  control := tick_control n s
  tma := by simp
  tac := by simp

/-! Routed accesses -/

/-- A routed read changes nothing but the count of free values drawn. -/
theorem routeRead_state (a : Word) (s : State) : ∃ d, (routeRead a s).2 = { s with draws := d } := by
  unfold routeRead
  split
  all_goals first
    | exact ⟨s.draws, rfl⟩
    | (unfold romRead; split <;> exact ⟨_, rfl⟩)
    | (unfold extRead; split <;> exact ⟨_, rfl⟩)
    | (split <;> exact ⟨s.draws, rfl⟩)

@[simp] theorem routeRead_cpu (a : Word) (s : State) : (routeRead a s).2.cpu = s.cpu := by
  obtain ⟨d, h⟩ := routeRead_state a s; rw [h]
@[simp] theorem routeRead_timer (a : Word) (s : State) : (routeRead a s).2.timer = s.timer := by
  obtain ⟨d, h⟩ := routeRead_state a s; rw [h]
@[simp] theorem routeRead_cart (a : Word) (s : State) : (routeRead a s).2.cart = s.cart := by
  obtain ⟨d, h⟩ := routeRead_state a s; rw [h]
@[simp] theorem routeRead_mem (a : Word) (s : State) : (routeRead a s).2.mem = s.mem := by
  obtain ⟨d, h⟩ := routeRead_state a s; rw [h]
@[simp] theorem routeRead_params (a : Word) (s : State) : (routeRead a s).2.params = s.params := by
  obtain ⟨d, h⟩ := routeRead_state a s; rw [h]

theorem extWrite_eq (a : Word) (v : Byte) (s : State) :
    extWrite a v s = s ∨ extWrite a v s = { s with mem := s.mem.write a.toNat v } := by
  unfold extWrite; split
  · exact .inr rfl
  · exact .inl rfl

/-- The addresses of each region (R82). -/
def Region.spans (r : Region) (n : Nat) : Prop :=
  match r with
  | .romFixed => n < 0x4000
  | .romBanked => 0x4000 ≤ n ∧ n < 0x8000
  | .videoRam => 0x8000 ≤ n ∧ n < 0xA000
  | .cartWindow => 0xA000 ≤ n ∧ n < 0xC000
  | .workRam => 0xC000 ≤ n ∧ n < 0xE000
  | .echo => 0xE000 ≤ n ∧ n < 0xFE00
  | .flat => 0xFE00 ≤ n ∧ n < 0xFF00 ∨ 0xFF01 ≤ n ∧ n < 0xFF04 ∨ 0xFF08 ≤ n ∧ n < 0xFF0F ∨ 0xFF27 ≤ n ∧ n < 0xFF40 ∨
    0xFF4C ≤ n ∧ n < 0xFFFF
  | .joypad => n = 0xFF00
  | .timer => 0xFF04 ≤ n ∧ n < 0xFF08
  | .intRequest => n = 0xFF0F
  | .apu => 0xFF10 ≤ n ∧ n < 0xFF27
  | .ppu => 0xFF40 ≤ n ∧ n < 0xFF4C
  | .intEnable => n = 0xFFFF

theorem Region.spans_ite {c : Prop} [Decidable c] {x y : Region} {n : Nat} (h : c → x.spans n) (h' : ¬c → y.spans n) :
    (if c then x else y).spans n := by
  split
  · exact h ‹_›
  · exact h' ‹_›

theorem region_range (a : Word) : (region a).spans a.toNat := by
  have hlt := a.isLt
  unfold region
  dsimp only
  repeat' refine Region.spans_ite (fun _ => ?_) (fun _ => ?_)
  all_goals (dsimp only [Region.spans]; omega)

/-- The regions are disjoint: an address in a region's range is of that region. -/
theorem region_unique (r : Region) (a : Word) (h : r.spans a.toNat) : region a = r := by
  have hr := region_range a
  generalize region a = q at hr
  cases r <;> cases q <;> first | rfl | (exfalso; dsimp only [Region.spans] at h hr; omega)

/-- A routed write changes nothing, or one byte of the backing array, or the cartridge, or the timer. -/
theorem routeWrite_state (a : Word) (v : Byte) (s : State) :
    routeWrite a v s = s ∨
    (∃ k, 0x8000 ≤ k ∧ k < 0x10000 ∧ backing a s = .mem k ∧ routeWrite a v s = { s with mem := s.mem.write k v }) ∨
    (a.toNat < 0x8000 ∧ routeWrite a v s = { s with cart := s.cart.command s.params.cartKind a v }) ∨
    (0xA000 ≤ a.toNat ∧ a.toNat < 0xC000 ∧ hasRam s.params.cartKind = true ∧
      routeWrite a v s = { s with cart := s.cart.windowWrite a v }) ∨
    (0xFF04 ≤ a.toNat ∧ a.toNat < 0xFF08 ∧ routeWrite a v s = { s with timer := s.timer.write a v }) := by
  have hlt := a.isLt
  have hr := region_range a
  unfold routeWrite backing extWrite
  generalize region a = r at hr ⊢
  cases r <;> dsimp only [Region.spans] at hr ⊢
  case romFixed => exact .inr (.inr (.inl ⟨by omega, rfl⟩))
  case romBanked => exact .inr (.inr (.inl ⟨by omega, rfl⟩))
  case timer => exact .inr (.inr (.inr (.inr ⟨by omega, by omega, rfl⟩)))
  case cartWindow =>
    split
    · exact .inr (.inr (.inr (.inl ⟨by omega, by omega, ‹_›, rfl⟩)))
    · exact .inr (.inl ⟨_, by omega, by omega, rfl, rfl⟩)
  case videoRam | joypad | apu | ppu =>
    split
    · exact .inr (.inl ⟨_, by omega, by omega, rfl, rfl⟩)
    · exact .inl rfl
  case workRam | echo | flat | intRequest | intEnable => exact .inr (.inl ⟨_, by omega, by omega, rfl, rfl⟩)

@[simp] theorem routeWrite_cpu (a : Word) (v : Byte) (s : State) : (routeWrite a v s).cpu = s.cpu := by
  rcases routeWrite_state a v s with h | ⟨_, _, _, _, h⟩ | ⟨_, h⟩ | ⟨_, _, _, h⟩ | ⟨_, _, h⟩ <;> rw [h]
@[simp] theorem routeWrite_params (a : Word) (v : Byte) (s : State) : (routeWrite a v s).params = s.params := by
  rcases routeWrite_state a v s with h | ⟨_, _, _, _, h⟩ | ⟨_, h⟩ | ⟨_, _, _, h⟩ | ⟨_, _, h⟩ <;> rw [h]
@[simp] theorem routeWrite_draws (a : Word) (v : Byte) (s : State) : (routeWrite a v s).draws = s.draws := by
  rcases routeWrite_state a v s with h | ⟨_, _, _, _, h⟩ | ⟨_, h⟩ | ⟨_, _, _, h⟩ | ⟨_, _, h⟩ <;> rw [h]

/-- A routed write changes no byte of the backing array but the one behind its address. -/
theorem routeWrite_bytes (a : Word) (v : Byte) (s : State) (k : Nat) (hk : backing a s ≠ .mem k) :
    (routeWrite a v s).mem.read k = s.mem.read k := by
  rcases routeWrite_state a v s with h | ⟨j, _, _, hb, h⟩ | ⟨_, h⟩ | ⟨_, _, _, h⟩ | ⟨_, _, h⟩ <;> rw [h]
  exact Memory.read_write_other _ _ _ _ fun e => hk (e ▸ hb)

/-- An address with a byte of the backing array behind it: that byte is written and read. -/
theorem backing_mem {a : Word} {s : State} {k : Nat} (h : backing a s = .mem k) :
    (∀ v, routeWrite a v s = { s with mem := s.mem.write k v }) ∧ routeRead a s = (s.mem.read k, s) := by
  unfold backing at h
  unfold routeWrite routeRead
  generalize region a = r at *
  cases r <;> dsimp only [extWrite, extRead] at * <;> (try (generalize s.params.ext = x at *; cases x <;> dsimp only at *)) <;>
    (try (injection h with h; subst h; exact ⟨fun _ => rfl, rfl⟩)) <;> (try (simp at h; done))
  split at h
  · split at h <;> exact absurd h (by simp)
  · rename_i hc
    injection h with h
    subst h
    exact ⟨fun _ => if_neg hc, if_neg hc⟩

/-- An address with a byte of cartridge RAM behind it: that byte is written and read. -/
theorem backing_ram {a : Word} {s : State} {off : Nat} (h : backing a s = .ram off) :
    (∀ v, routeWrite a v s = { s with cart := { s.cart with ram := s.cart.ram.write off v } }) ∧
    routeRead a s = (s.cart.ram.read off, s) := by
  unfold backing at h
  unfold routeWrite routeRead
  generalize region a = r at *
  cases r <;> dsimp only [extWrite, extRead] at * <;> (try (generalize s.params.ext = x at *; cases x <;> dsimp only at *)) <;>
    (try (simp at h; done))
  split at h
  · split at h
    · rename_i hc he
      simp only [Bool.and_eq_true, Bool.not_eq_true'] at he
      injection h with h
      subst h
      simp only [hc, if_true, Cart.windowWrite, Cart.windowRead, he.1, he.2]
      exact ⟨fun _ => rfl, rfl⟩
    · exact absurd h (by simp)
  · exact absurd h (by simp)

/-- A byte of the backing array stands behind its own address, and behind the echo 0x2000 above it. -/
theorem backing_mem_addr {a : Word} {s : State} {k : Nat} (h : backing a s = .mem k) :
    a.toNat = k ∨ a.toNat = k + 0x2000 ∧ a.toNat < 0xFE00 := by
  have hr := region_range a
  unfold backing at h
  generalize region a = r at hr h
  cases r <;> dsimp only [Region.spans] at hr h <;> repeat' split at h
  all_goals first | (injection h with h; omega) | exact nomatch h

/-- IF stands behind its own address only. -/
theorem backing_if (a : Word) (s : State) : backing a s = .mem 0xFF0F ↔ a = 0xFF0F := by
  constructor
  · intro h
    exact BitVec.eq_of_toNat_eq (by have := backing_mem_addr h; simp only [BitVec.reduceToNat]; omega)
  · rintro rfl; rfl

/-- A byte of cartridge RAM stands behind one address of the window. -/
theorem backing_ram_addr {a : Word} {s : State} {off : Nat} (h : backing a s = .ram off) :
    0xA000 ≤ a.toNat ∧ a.toNat < 0xC000 ∧ off = s.cart.ramBank.val * 0x2000 + (a.toNat - 0xA000) := by
  have hr := region_range a
  unfold backing at h
  generalize region a = r at hr h
  cases r <;> dsimp only [Region.spans] at hr h <;> repeat' split at h
  all_goals first | (injection h with h; exact ⟨by omega, by omega, h.symm⟩) | exact nomatch h

/-- Two adjacent addresses never share a byte of the backing array. -/
theorem backing_next_mem {a : Word} {s : State} {k : Nat} (h : backing a s = .mem k) : backing (a + 1) s ≠ .mem k := by
  intro h'
  have h1 := backing_mem_addr h
  have h2 := backing_mem_addr h'
  rw [BitVec.toNat_add] at h2
  simp only [BitVec.reduceToNat] at h2
  omega

/-- Two adjacent addresses never share a byte of cartridge RAM. -/
theorem backing_next_ram {a : Word} {s : State} {off : Nat} (h : backing a s = .ram off) : backing (a + 1) s ≠ .ram off := by
  intro h'
  obtain ⟨_, _, h1⟩ := backing_ram_addr h
  obtain ⟨_, _, h2⟩ := backing_ram_addr h'
  rw [BitVec.toNat_add] at h2
  simp only [BitVec.reduceToNat] at h2
  omega

/-- What stands behind an address depends on the parameters and the cartridge's control registers only. -/
theorem backing_congr (a : Word) {s t : State} (hp : t.params = s.params) (hb : t.cart.romBankNum = s.cart.romBankNum)
    (he : t.cart.ramEnabled = s.cart.ramEnabled) (hr : t.cart.ramBank = s.cart.ramBank)
    (hm : t.cart.rtcMapped = s.cart.rtcMapped) : backing a t = backing a s := by
  unfold backing Cart.romOffset Cart.ramOffset
  rw [hp, hb, he, hr, hm]

/-- So reads and passing time leave it alone. -/
theorem MemoryKept.backing {s t : State} (h : MemoryKept s t) (a : Word) : Machine.backing a t = Machine.backing a s :=
  backing_congr a h.params h.control.1 h.control.2.1 h.control.2.2.1 h.control.2.2.2.1

theorem tick_backing (n : Nat) (s : State) (a : Word) : Machine.backing a (tick n s) = Machine.backing a s := by
  obtain ⟨h1, h2, h3, h4, _⟩ := tick_control n s
  exact backing_congr a (tick_params n s) h1 h2 h3 h4

/-- A write above the ROM addresses moves no storage. -/
theorem routeWrite_backing (a : Word) (v : Byte) (s : State) (b : Word) (h : ¬a.toNat < 0x8000) :
    Machine.backing b (routeWrite a v s) = Machine.backing b s := by
  rcases routeWrite_state a v s with e | ⟨_, _, _, _, e⟩ | ⟨h', _⟩ | ⟨_, _, _, e⟩ | ⟨_, _, e⟩
  · rw [e]
  · rw [e]; rfl
  · exact absurd h' h
  · rw [e]
    unfold Cart.windowWrite
    split
    · rfl
    · split
      · rfl
      · rfl
  · rw [e]; rfl

/-- The cartridge after `Tick(n)` is its own step's. -/
theorem tick_cart (n : Nat) (s : State) :
    (tick n s).cart = (cartStep n { s with cpu := { s.cpu with cyc := s.cpu.cyc + n } }).cart := by
  unfold tick
  rw [extStep_cart]
  unfold cartStep
  have hd := timerStep_draws n { s with cpu := { s.cpu with cyc := s.cpu.cyc + n } }
  simp only [timerStep_cart, timerStep_params]
  cases s.params.cartKind <;> simp only [timerStep_cart]
  split
  · simp only [timerStep_cart]
  · cases s.params.rtcMode <;> simp only [hd]

/-! Charged accesses -/

theorem memRead_eq (a : Word) (s : State) : memRead a s = ((routeRead a s).1, tick 4 (routeRead a s).2) := rfl
theorem memWrite_eq (a : Word) (v : Byte) (s : State) : memWrite a v s = tick 4 (routeWrite a v s) := rfl

@[simp] theorem memRead_cpu (a : Word) (s : State) : (memRead a s).2.cpu = { s.cpu with cyc := s.cpu.cyc + 4 } := by
  simp [memRead_eq]
@[simp] theorem memRead_params (a : Word) (s : State) : (memRead a s).2.params = s.params := by simp [memRead_eq]
@[simp] theorem memRead_timer (a : Word) (s : State) : (memRead a s).2.timer = (Timer.steps 4 s.timer).1 := by
  simp [memRead_eq]
theorem memRead_wf (a : Word) (s : State) (h : s.mem.wf = true) : (memRead a s).2.mem.wf = true := by
  rw [memRead_eq]; exact tick_wf _ _ (by simpa using h)
/-- A charged read keeps memory as passing time does. -/
theorem memRead_kept (a : Word) (s : State) (h : s.mem.wf = true) : MemoryKept s (memRead a s).2 := by
  rw [memRead_eq]
  exact (MemoryKept.of_eq (by simp) (by simp) (by simp) (by simp)).trans (tick_kept 4 _ (by simpa using h))

@[simp] theorem memWrite_cpu (a : Word) (v : Byte) (s : State) :
    (memWrite a v s).cpu = { s.cpu with cyc := s.cpu.cyc + 4 } := by simp [memWrite_eq]
@[simp] theorem memWrite_params (a : Word) (v : Byte) (s : State) : (memWrite a v s).params = s.params := by
  simp [memWrite_eq]
theorem memWrite_bytes (a : Word) (v : Byte) (s : State) (k : Nat) (hk : backing a s ≠ .mem k) (h : k ≠ 0xFF0F) :
    (memWrite a v s).mem.read k = s.mem.read k := by
  rw [memWrite_eq, tick_bytes _ _ _ h, routeWrite_bytes _ _ _ _ hk]
theorem routeWrite_wf (a : Word) (v : Byte) (s : State) (h : s.mem.wf = true) : (routeWrite a v s).mem.wf = true := by
  rcases routeWrite_state a v s with e | ⟨_, _, _, _, e⟩ | ⟨_, e⟩ | ⟨_, _, _, e⟩ | ⟨_, _, e⟩ <;> rw [e]
  exacts [h, Memory.write_wf h _ _, h, h, h]
/-- A charged write stores its byte in the backing array, where one other than IF stands behind the address. -/
theorem memWrite_mem {a : Word} {s : State} {k : Nat} (hb : backing a s = .mem k) (h : s.mem.wf = true) (hk : k ≠ 0xFF0F)
    (v : Byte) : (memWrite a v s).mem.read k = v := by
  rw [memWrite_eq, tick_bytes _ _ _ hk, (backing_mem hb).1]
  exact Memory.read_write_same h _ _
/-- A charged write stores its byte in cartridge RAM, where one stands behind the address. -/
theorem memWrite_ram {a : Word} {s : State} {off : Nat} (hb : backing a s = .ram off) (h : s.cart.ram.wf = true) (v : Byte) :
    (memWrite a v s).cart.ram.read off = v := by
  rw [memWrite_eq, tick_ram, (backing_ram hb).1]
  exact Memory.read_write_same h _ _
/-- A charged write changes no byte of cartridge RAM but the one behind its address. -/
theorem memWrite_ram_bytes (a : Word) (v : Byte) (s : State) (off : Nat) (h : backing a s ≠ .ram off) :
    (memWrite a v s).cart.ram.read off = s.cart.ram.read off := by
  rw [memWrite_eq, tick_ram]
  have hr := region_range a
  unfold backing at h
  unfold routeWrite
  generalize region a = r at hr h ⊢
  cases r <;> dsimp only at h ⊢ <;> (try unfold extWrite) <;> (try split) <;> (try rfl)
  case romFixed | romBanked => rw [(Cart.command_kept _ _ _ _).1]
  · rename_i hr
    rw [if_pos hr] at h
    unfold Cart.windowWrite
    split
    · rfl
    · split
      · rfl
      · rename_i he hm
        rw [if_pos (by simp [he, hm])] at h
        exact Memory.read_write_other _ _ _ _ fun e => h (e ▸ rfl)
/-- A charged write keeps cartridge RAM canonical. -/
theorem memWrite_ram_wf (a : Word) (v : Byte) (s : State) (h : s.cart.ram.wf = true) : (memWrite a v s).cart.ram.wf = true := by
  rw [memWrite_eq, tick_ram]
  unfold routeWrite
  generalize region a = r
  cases r <;> dsimp only <;> (try unfold extWrite) <;> (try split) <;> (try exact h)
  case romFixed | romBanked => rw [(Cart.command_kept _ _ _ _).1]; exact h
  · unfold Cart.windowWrite
    split
    · exact h
    · split
      · exact h
      · exact Memory.write_wf h _ _
/-- A charged write at an address leaves the storage behind the next one in place, but for a command that switches a ROM bank. -/
theorem backing_memWrite_next (a : Word) (v : Byte) (s : State) (b : Backing) (hb : ∀ off, b ≠ .rom off) :
    backing (a + 1) (memWrite a v s) = b ↔ backing (a + 1) s = b := by
  by_cases h : a.toNat < 0x8000
  · have hn : (a + 1).toNat = a.toNat + 1 := by rw [BitVec.toNat_add]; simp only [BitVec.reduceToNat]; omega
    have hr := region_range (a + 1)
    unfold backing
    generalize region (a + 1) = r at hr ⊢
    cases r <;> dsimp only [Region.spans] at hr ⊢
    case romFixed | romBanked => exact ⟨fun e => absurd e.symm (hb _), fun e => absurd e.symm (hb _)⟩
    case videoRam => rw [memWrite_params]
    all_goals (exfalso; omega)
  · rw [memWrite_eq, (tick_backing _ _ _), routeWrite_backing _ _ _ _ h]
theorem memWrite_wf (a : Word) (v : Byte) (s : State) (h : s.mem.wf = true) : (memWrite a v s).mem.wf = true :=
  tick_wf _ _ (routeWrite_wf a v s h)

/-- A charged write elsewhere than IF changes IF as its 4 cycles do. -/
theorem memWrite_if (a : Word) (v : Byte) (s : State) (h : a ≠ 0xFF0F) (hw : s.mem.wf = true) :
    ∃ m : Byte, (memWrite a v s).ifByte = s.ifByte ||| m ∧ (∀ i, 3 ≤ i → m.getLsbD i = false) ∧
    (s.params.ext = .stub → ∀ i, i ≠ 2 → m.getLsbD i = false) ∧ m.getLsbD 2 = (Timer.steps 4 (routeWrite a v s).timer).2 := by
  have e : (routeWrite a v s).ifByte = s.ifByte := routeWrite_bytes _ _ _ _ fun e => h ((backing_if a s).1 e)
  obtain ⟨m, hm, h3, hs, h2⟩ := tick_if 4 _ (routeWrite_wf a v s hw)
  exact ⟨m, by rw [memWrite_eq, hm, e], h3, by simpa using hs, h2⟩

end Sys2Proof.Machine
end

