-- ==== Sys2Proof/Laws/State.lean ====
section
/-! SUPPORT. One lemma per field per update of the state: what the update leaves, and what it writes. -/

namespace Sys2Proof.Machine

section
variable (s : State) (r : Reg8) (v : Byte)
@[simp] theorem State.setReg8_f : (s.setReg8 r v).cpu.f = s.cpu.f := by cases r <;> rfl
@[simp] theorem State.setReg8_sp : (s.setReg8 r v).cpu.sp = s.cpu.sp := by cases r <;> rfl
@[simp] theorem State.setReg8_pc : (s.setReg8 r v).cpu.pc = s.cpu.pc := by cases r <;> rfl
@[simp] theorem State.setReg8_ime : (s.setReg8 r v).cpu.ime = s.cpu.ime := by cases r <;> rfl
@[simp] theorem State.setReg8_halted : (s.setReg8 r v).cpu.halted = s.cpu.halted := by cases r <;> rfl
@[simp] theorem State.setReg8_cyc : (s.setReg8 r v).cpu.cyc = s.cpu.cyc := by cases r <;> rfl
@[simp] theorem State.setReg8_fault : (s.setReg8 r v).cpu.fault = s.cpu.fault := by cases r <;> rfl
@[simp] theorem State.setReg8_timer : (s.setReg8 r v).timer = s.timer := by cases r <;> rfl
@[simp] theorem State.setReg8_cart : (s.setReg8 r v).cart = s.cart := by cases r <;> rfl
@[simp] theorem State.setReg8_mem : (s.setReg8 r v).mem = s.mem := by cases r <;> rfl
@[simp] theorem State.setReg8_params : (s.setReg8 r v).params = s.params := by cases r <;> rfl
@[simp] theorem State.setReg8_draws : (s.setReg8 r v).draws = s.draws := by cases r <;> rfl
end

section
variable (s : State) (v : Byte)
@[simp] theorem State.setF_a : (s.setF v).cpu.a = s.cpu.a := rfl
@[simp] theorem State.setF_f : (s.setF v).cpu.f = v &&& 0xF0 := rfl
@[simp] theorem State.setF_b : (s.setF v).cpu.b = s.cpu.b := rfl
@[simp] theorem State.setF_c : (s.setF v).cpu.c = s.cpu.c := rfl
@[simp] theorem State.setF_d : (s.setF v).cpu.d = s.cpu.d := rfl
@[simp] theorem State.setF_e : (s.setF v).cpu.e = s.cpu.e := rfl
@[simp] theorem State.setF_h : (s.setF v).cpu.h = s.cpu.h := rfl
@[simp] theorem State.setF_l : (s.setF v).cpu.l = s.cpu.l := rfl
@[simp] theorem State.setF_sp : (s.setF v).cpu.sp = s.cpu.sp := rfl
@[simp] theorem State.setF_pc : (s.setF v).cpu.pc = s.cpu.pc := rfl
@[simp] theorem State.setF_ime : (s.setF v).cpu.ime = s.cpu.ime := rfl
@[simp] theorem State.setF_halted : (s.setF v).cpu.halted = s.cpu.halted := rfl
@[simp] theorem State.setF_cyc : (s.setF v).cpu.cyc = s.cpu.cyc := rfl
@[simp] theorem State.setF_fault : (s.setF v).cpu.fault = s.cpu.fault := rfl
@[simp] theorem State.setF_timer : (s.setF v).timer = s.timer := rfl
@[simp] theorem State.setF_cart : (s.setF v).cart = s.cart := rfl
@[simp] theorem State.setF_mem : (s.setF v).mem = s.mem := rfl
@[simp] theorem State.setF_params : (s.setF v).params = s.params := rfl
@[simp] theorem State.setF_draws : (s.setF v).draws = s.draws := rfl
end

section
variable (s : State) (z n h c : Bool)
@[simp] theorem State.setFlags_a : (s.setFlags z n h c).cpu.a = s.cpu.a := rfl
@[simp] theorem State.setFlags_f : (s.setFlags z n h c).cpu.f = packFlags z n h c &&& 0xF0 := rfl
@[simp] theorem State.setFlags_b : (s.setFlags z n h c).cpu.b = s.cpu.b := rfl
@[simp] theorem State.setFlags_c : (s.setFlags z n h c).cpu.c = s.cpu.c := rfl
@[simp] theorem State.setFlags_d : (s.setFlags z n h c).cpu.d = s.cpu.d := rfl
@[simp] theorem State.setFlags_e : (s.setFlags z n h c).cpu.e = s.cpu.e := rfl
@[simp] theorem State.setFlags_h : (s.setFlags z n h c).cpu.h = s.cpu.h := rfl
@[simp] theorem State.setFlags_l : (s.setFlags z n h c).cpu.l = s.cpu.l := rfl
@[simp] theorem State.setFlags_sp : (s.setFlags z n h c).cpu.sp = s.cpu.sp := rfl
@[simp] theorem State.setFlags_pc : (s.setFlags z n h c).cpu.pc = s.cpu.pc := rfl
@[simp] theorem State.setFlags_ime : (s.setFlags z n h c).cpu.ime = s.cpu.ime := rfl
@[simp] theorem State.setFlags_halted : (s.setFlags z n h c).cpu.halted = s.cpu.halted := rfl
@[simp] theorem State.setFlags_cyc : (s.setFlags z n h c).cpu.cyc = s.cpu.cyc := rfl
@[simp] theorem State.setFlags_fault : (s.setFlags z n h c).cpu.fault = s.cpu.fault := rfl
@[simp] theorem State.setFlags_timer : (s.setFlags z n h c).timer = s.timer := rfl
@[simp] theorem State.setFlags_cart : (s.setFlags z n h c).cart = s.cart := rfl
@[simp] theorem State.setFlags_mem : (s.setFlags z n h c).mem = s.mem := rfl
@[simp] theorem State.setFlags_params : (s.setFlags z n h c).params = s.params := rfl
@[simp] theorem State.setFlags_draws : (s.setFlags z n h c).draws = s.draws := rfl
end

section
variable (s : State) (p : Pair) (v : Word)
@[simp] theorem State.setPair_a : (s.setPair p v).cpu.a = s.cpu.a := by cases p <;> rfl
@[simp] theorem State.setPair_f : (s.setPair p v).cpu.f = s.cpu.f := by cases p <;> rfl
@[simp] theorem State.setPair_pc : (s.setPair p v).cpu.pc = s.cpu.pc := by cases p <;> rfl
@[simp] theorem State.setPair_ime : (s.setPair p v).cpu.ime = s.cpu.ime := by cases p <;> rfl
@[simp] theorem State.setPair_halted : (s.setPair p v).cpu.halted = s.cpu.halted := by cases p <;> rfl
@[simp] theorem State.setPair_cyc : (s.setPair p v).cpu.cyc = s.cpu.cyc := by cases p <;> rfl
@[simp] theorem State.setPair_fault : (s.setPair p v).cpu.fault = s.cpu.fault := by cases p <;> rfl
@[simp] theorem State.setPair_timer : (s.setPair p v).timer = s.timer := by cases p <;> rfl
@[simp] theorem State.setPair_cart : (s.setPair p v).cart = s.cart := by cases p <;> rfl
@[simp] theorem State.setPair_mem : (s.setPair p v).mem = s.mem := by cases p <;> rfl
@[simp] theorem State.setPair_params : (s.setPair p v).params = s.params := by cases p <;> rfl
@[simp] theorem State.setPair_draws : (s.setPair p v).draws = s.draws := by cases p <;> rfl
end

section
variable (s : State) (v : Word)
@[simp] theorem State.setAf_a : (s.setAf v).cpu.a = hiByte v := rfl
@[simp] theorem State.setAf_f : (s.setAf v).cpu.f = loByte v &&& 0xF0 := rfl
@[simp] theorem State.setAf_b : (s.setAf v).cpu.b = s.cpu.b := rfl
@[simp] theorem State.setAf_c : (s.setAf v).cpu.c = s.cpu.c := rfl
@[simp] theorem State.setAf_d : (s.setAf v).cpu.d = s.cpu.d := rfl
@[simp] theorem State.setAf_e : (s.setAf v).cpu.e = s.cpu.e := rfl
@[simp] theorem State.setAf_h : (s.setAf v).cpu.h = s.cpu.h := rfl
@[simp] theorem State.setAf_l : (s.setAf v).cpu.l = s.cpu.l := rfl
@[simp] theorem State.setAf_sp : (s.setAf v).cpu.sp = s.cpu.sp := rfl
@[simp] theorem State.setAf_pc : (s.setAf v).cpu.pc = s.cpu.pc := rfl
@[simp] theorem State.setAf_ime : (s.setAf v).cpu.ime = s.cpu.ime := rfl
@[simp] theorem State.setAf_halted : (s.setAf v).cpu.halted = s.cpu.halted := rfl
@[simp] theorem State.setAf_cyc : (s.setAf v).cpu.cyc = s.cpu.cyc := rfl
@[simp] theorem State.setAf_fault : (s.setAf v).cpu.fault = s.cpu.fault := rfl
@[simp] theorem State.setAf_timer : (s.setAf v).timer = s.timer := rfl
@[simp] theorem State.setAf_cart : (s.setAf v).cart = s.cart := rfl
@[simp] theorem State.setAf_mem : (s.setAf v).mem = s.mem := rfl
@[simp] theorem State.setAf_params : (s.setAf v).params = s.params := rfl
@[simp] theorem State.setAf_draws : (s.setAf v).draws = s.draws := rfl
end

section
variable (s : State) (v : Word)
@[simp] theorem State.setPc_a : (s.setPc v).cpu.a = s.cpu.a := rfl
@[simp] theorem State.setPc_f : (s.setPc v).cpu.f = s.cpu.f := rfl
@[simp] theorem State.setPc_b : (s.setPc v).cpu.b = s.cpu.b := rfl
@[simp] theorem State.setPc_c : (s.setPc v).cpu.c = s.cpu.c := rfl
@[simp] theorem State.setPc_d : (s.setPc v).cpu.d = s.cpu.d := rfl
@[simp] theorem State.setPc_e : (s.setPc v).cpu.e = s.cpu.e := rfl
@[simp] theorem State.setPc_h : (s.setPc v).cpu.h = s.cpu.h := rfl
@[simp] theorem State.setPc_l : (s.setPc v).cpu.l = s.cpu.l := rfl
@[simp] theorem State.setPc_sp : (s.setPc v).cpu.sp = s.cpu.sp := rfl
@[simp] theorem State.setPc_pc : (s.setPc v).cpu.pc = v := rfl
@[simp] theorem State.setPc_ime : (s.setPc v).cpu.ime = s.cpu.ime := rfl
@[simp] theorem State.setPc_halted : (s.setPc v).cpu.halted = s.cpu.halted := rfl
@[simp] theorem State.setPc_cyc : (s.setPc v).cpu.cyc = s.cpu.cyc := rfl
@[simp] theorem State.setPc_fault : (s.setPc v).cpu.fault = s.cpu.fault := rfl
@[simp] theorem State.setPc_timer : (s.setPc v).timer = s.timer := rfl
@[simp] theorem State.setPc_cart : (s.setPc v).cart = s.cart := rfl
@[simp] theorem State.setPc_mem : (s.setPc v).mem = s.mem := rfl
@[simp] theorem State.setPc_params : (s.setPc v).params = s.params := rfl
@[simp] theorem State.setPc_draws : (s.setPc v).draws = s.draws := rfl
end

section
variable (s : State) (v : Word)
@[simp] theorem State.setSp_a : (s.setSp v).cpu.a = s.cpu.a := rfl
@[simp] theorem State.setSp_f : (s.setSp v).cpu.f = s.cpu.f := rfl
@[simp] theorem State.setSp_b : (s.setSp v).cpu.b = s.cpu.b := rfl
@[simp] theorem State.setSp_c : (s.setSp v).cpu.c = s.cpu.c := rfl
@[simp] theorem State.setSp_d : (s.setSp v).cpu.d = s.cpu.d := rfl
@[simp] theorem State.setSp_e : (s.setSp v).cpu.e = s.cpu.e := rfl
@[simp] theorem State.setSp_h : (s.setSp v).cpu.h = s.cpu.h := rfl
@[simp] theorem State.setSp_l : (s.setSp v).cpu.l = s.cpu.l := rfl
@[simp] theorem State.setSp_sp : (s.setSp v).cpu.sp = v := rfl
@[simp] theorem State.setSp_pc : (s.setSp v).cpu.pc = s.cpu.pc := rfl
@[simp] theorem State.setSp_ime : (s.setSp v).cpu.ime = s.cpu.ime := rfl
@[simp] theorem State.setSp_halted : (s.setSp v).cpu.halted = s.cpu.halted := rfl
@[simp] theorem State.setSp_cyc : (s.setSp v).cpu.cyc = s.cpu.cyc := rfl
@[simp] theorem State.setSp_fault : (s.setSp v).cpu.fault = s.cpu.fault := rfl
@[simp] theorem State.setSp_timer : (s.setSp v).timer = s.timer := rfl
@[simp] theorem State.setSp_cart : (s.setSp v).cart = s.cart := rfl
@[simp] theorem State.setSp_mem : (s.setSp v).mem = s.mem := rfl
@[simp] theorem State.setSp_params : (s.setSp v).params = s.params := rfl
@[simp] theorem State.setSp_draws : (s.setSp v).draws = s.draws := rfl
end

section
variable (s : State) (v : Bool)
@[simp] theorem State.setIme_a : (s.setIme v).cpu.a = s.cpu.a := rfl
@[simp] theorem State.setIme_f : (s.setIme v).cpu.f = s.cpu.f := rfl
@[simp] theorem State.setIme_b : (s.setIme v).cpu.b = s.cpu.b := rfl
@[simp] theorem State.setIme_c : (s.setIme v).cpu.c = s.cpu.c := rfl
@[simp] theorem State.setIme_d : (s.setIme v).cpu.d = s.cpu.d := rfl
@[simp] theorem State.setIme_e : (s.setIme v).cpu.e = s.cpu.e := rfl
@[simp] theorem State.setIme_h : (s.setIme v).cpu.h = s.cpu.h := rfl
@[simp] theorem State.setIme_l : (s.setIme v).cpu.l = s.cpu.l := rfl
@[simp] theorem State.setIme_sp : (s.setIme v).cpu.sp = s.cpu.sp := rfl
@[simp] theorem State.setIme_pc : (s.setIme v).cpu.pc = s.cpu.pc := rfl
@[simp] theorem State.setIme_ime : (s.setIme v).cpu.ime = v := rfl
@[simp] theorem State.setIme_halted : (s.setIme v).cpu.halted = s.cpu.halted := rfl
@[simp] theorem State.setIme_cyc : (s.setIme v).cpu.cyc = s.cpu.cyc := rfl
@[simp] theorem State.setIme_fault : (s.setIme v).cpu.fault = s.cpu.fault := rfl
@[simp] theorem State.setIme_timer : (s.setIme v).timer = s.timer := rfl
@[simp] theorem State.setIme_cart : (s.setIme v).cart = s.cart := rfl
@[simp] theorem State.setIme_mem : (s.setIme v).mem = s.mem := rfl
@[simp] theorem State.setIme_params : (s.setIme v).params = s.params := rfl
@[simp] theorem State.setIme_draws : (s.setIme v).draws = s.draws := rfl
end

section
variable (s : State) (v : Bool)
@[simp] theorem State.setHalted_a : (s.setHalted v).cpu.a = s.cpu.a := rfl
@[simp] theorem State.setHalted_f : (s.setHalted v).cpu.f = s.cpu.f := rfl
@[simp] theorem State.setHalted_b : (s.setHalted v).cpu.b = s.cpu.b := rfl
@[simp] theorem State.setHalted_c : (s.setHalted v).cpu.c = s.cpu.c := rfl
@[simp] theorem State.setHalted_d : (s.setHalted v).cpu.d = s.cpu.d := rfl
@[simp] theorem State.setHalted_e : (s.setHalted v).cpu.e = s.cpu.e := rfl
@[simp] theorem State.setHalted_h : (s.setHalted v).cpu.h = s.cpu.h := rfl
@[simp] theorem State.setHalted_l : (s.setHalted v).cpu.l = s.cpu.l := rfl
@[simp] theorem State.setHalted_sp : (s.setHalted v).cpu.sp = s.cpu.sp := rfl
@[simp] theorem State.setHalted_pc : (s.setHalted v).cpu.pc = s.cpu.pc := rfl
@[simp] theorem State.setHalted_ime : (s.setHalted v).cpu.ime = s.cpu.ime := rfl
@[simp] theorem State.setHalted_halted : (s.setHalted v).cpu.halted = v := rfl
@[simp] theorem State.setHalted_cyc : (s.setHalted v).cpu.cyc = s.cpu.cyc := rfl
@[simp] theorem State.setHalted_fault : (s.setHalted v).cpu.fault = s.cpu.fault := rfl
@[simp] theorem State.setHalted_timer : (s.setHalted v).timer = s.timer := rfl
@[simp] theorem State.setHalted_cart : (s.setHalted v).cart = s.cart := rfl
@[simp] theorem State.setHalted_mem : (s.setHalted v).mem = s.mem := rfl
@[simp] theorem State.setHalted_params : (s.setHalted v).params = s.params := rfl
@[simp] theorem State.setHalted_draws : (s.setHalted v).draws = s.draws := rfl
end

section
variable (s : State) (v : Byte)
@[simp] theorem State.setIf_a : (s.setIf v).cpu.a = s.cpu.a := rfl
@[simp] theorem State.setIf_f : (s.setIf v).cpu.f = s.cpu.f := rfl
@[simp] theorem State.setIf_b : (s.setIf v).cpu.b = s.cpu.b := rfl
@[simp] theorem State.setIf_c : (s.setIf v).cpu.c = s.cpu.c := rfl
@[simp] theorem State.setIf_d : (s.setIf v).cpu.d = s.cpu.d := rfl
@[simp] theorem State.setIf_e : (s.setIf v).cpu.e = s.cpu.e := rfl
@[simp] theorem State.setIf_h : (s.setIf v).cpu.h = s.cpu.h := rfl
@[simp] theorem State.setIf_l : (s.setIf v).cpu.l = s.cpu.l := rfl
@[simp] theorem State.setIf_sp : (s.setIf v).cpu.sp = s.cpu.sp := rfl
@[simp] theorem State.setIf_pc : (s.setIf v).cpu.pc = s.cpu.pc := rfl
@[simp] theorem State.setIf_ime : (s.setIf v).cpu.ime = s.cpu.ime := rfl
@[simp] theorem State.setIf_halted : (s.setIf v).cpu.halted = s.cpu.halted := rfl
@[simp] theorem State.setIf_cyc : (s.setIf v).cpu.cyc = s.cpu.cyc := rfl
@[simp] theorem State.setIf_fault : (s.setIf v).cpu.fault = s.cpu.fault := rfl
@[simp] theorem State.setIf_timer : (s.setIf v).timer = s.timer := rfl
@[simp] theorem State.setIf_cart : (s.setIf v).cart = s.cart := rfl
@[simp] theorem State.setIf_mem : (s.setIf v).mem = s.mem.write 0xFF0F v := rfl
@[simp] theorem State.setIf_params : (s.setIf v).params = s.params := rfl
@[simp] theorem State.setIf_draws : (s.setIf v).draws = s.draws := rfl
end

section
variable (s : State) (v : Byte)
@[simp] theorem State.request_a : (s.request v).cpu.a = s.cpu.a := rfl
@[simp] theorem State.request_f : (s.request v).cpu.f = s.cpu.f := rfl
@[simp] theorem State.request_b : (s.request v).cpu.b = s.cpu.b := rfl
@[simp] theorem State.request_c : (s.request v).cpu.c = s.cpu.c := rfl
@[simp] theorem State.request_d : (s.request v).cpu.d = s.cpu.d := rfl
@[simp] theorem State.request_e : (s.request v).cpu.e = s.cpu.e := rfl
@[simp] theorem State.request_h : (s.request v).cpu.h = s.cpu.h := rfl
@[simp] theorem State.request_l : (s.request v).cpu.l = s.cpu.l := rfl
@[simp] theorem State.request_sp : (s.request v).cpu.sp = s.cpu.sp := rfl
@[simp] theorem State.request_pc : (s.request v).cpu.pc = s.cpu.pc := rfl
@[simp] theorem State.request_ime : (s.request v).cpu.ime = s.cpu.ime := rfl
@[simp] theorem State.request_halted : (s.request v).cpu.halted = s.cpu.halted := rfl
@[simp] theorem State.request_cyc : (s.request v).cpu.cyc = s.cpu.cyc := rfl
@[simp] theorem State.request_fault : (s.request v).cpu.fault = s.cpu.fault := rfl
@[simp] theorem State.request_timer : (s.request v).timer = s.timer := rfl
@[simp] theorem State.request_cart : (s.request v).cart = s.cart := rfl
@[simp] theorem State.request_mem : (s.request v).mem = s.mem.write 0xFF0F (s.ifByte ||| v) := rfl
@[simp] theorem State.request_params : (s.request v).params = s.params := rfl
@[simp] theorem State.request_draws : (s.request v).draws = s.draws := rfl
end

theorem State.reg8_setReg8 (r x : Reg8) (v : Byte) (s : State) :
    (s.setReg8 r v).reg8 x = if x = r then v else s.reg8 x := by cases r <;> cases x <;> rfl

@[simp] theorem State.reg8_setReg8_same (r : Reg8) (v : Byte) (s : State) : (s.setReg8 r v).reg8 r = v := by
  cases r <;> rfl

@[simp] theorem State.reg8_setF (r : Reg8) (v : Byte) (s : State) : (s.setF v).reg8 r = s.reg8 r := by cases r <;> rfl

theorem getLsbD_joinBytes (hi lo : Byte) (i : Nat) :
    (joinBytes hi lo).getLsbD i = if i < 8 then lo.getLsbD i else hi.getLsbD (i - 8) :=
  BitVec.getLsbD_append

theorem getLsbD_loByte (v : Word) (i : Nat) : (loByte v).getLsbD i = (decide (i < 8) && v.getLsbD i) := by
  simp [loByte]

theorem getLsbD_hiByte (v : Word) (i : Nat) : (hiByte v).getLsbD i = (decide (i < 8) && v.getLsbD (8 + i)) := by
  simp [hiByte]

/-- A pair's two bytes are the pair again (R31). -/
@[simp] theorem joinBytes_hiByte_loByte (v : Word) : joinBytes (hiByte v) (loByte v) = v := by
  refine BitVec.eq_of_getLsbD_eq fun i hi => ?_
  rw [getLsbD_joinBytes, getLsbD_loByte, getLsbD_hiByte]
  split
  · simp [*]
  · rw [show 8 + (i - 8) = i by omega]; simp; omega

@[simp] theorem hiByte_joinBytes (hi lo : Byte) : hiByte (joinBytes hi lo) = hi := by
  refine BitVec.eq_of_getLsbD_eq fun i h => ?_
  rw [getLsbD_hiByte, getLsbD_joinBytes]; simp [h]

@[simp] theorem loByte_joinBytes (hi lo : Byte) : loByte (joinBytes hi lo) = lo := by
  refine BitVec.eq_of_getLsbD_eq fun i h => ?_
  rw [getLsbD_loByte, getLsbD_joinBytes]; simp [h]

theorem joinBytes_toNat (hi lo : Byte) : (joinBytes hi lo).toNat = hi.toNat * 256 + lo.toNat := by
  have : (joinBytes hi lo).toNat = hi.toNat <<< 8 ||| lo.toNat := BitVec.toNat_append ..
  rw [this, ← Nat.shiftLeft_add_eq_or_of_lt lo.isLt, Nat.shiftLeft_eq]

@[simp] theorem State.pair_setPair_same (p : Pair) (v : Word) (s : State) : (s.setPair p v).pair p = v := by
  cases p <;> simp [State.setPair, State.pair]

/-- A flag byte has a zero low nibble, so the write path to F stores it whole (R35). -/
@[simp] theorem packFlags_masked (z n h c : Bool) : packFlags z n h c &&& 0xF0 = packFlags z n h c := by
  cases z <;> cases n <;> cases h <;> cases c <;> rfl

/-- What the write path to F stores has a zero low nibble (R35). -/
theorem masked_low (v : Byte) : (v &&& 0xF0) &&& 0x0F = 0 := by
  rw [BitVec.and_assoc]; simp

/-- Writing AF drops F's low nibble (R31, R35). -/
theorem State.setAf_af (v : Word) (s : State) : (s.setAf v).af = v &&& 0xFFF0 := by
  refine BitVec.eq_of_getLsbD_eq fun i h => ?_
  simp only [State.af, State.setAf_a, State.setAf_f]
  rw [getLsbD_joinBytes, BitVec.getLsbD_and, BitVec.getLsbD_and, getLsbD_loByte, getLsbD_hiByte]
  interval_cases i <;> simp

section
variable (p : Params) (rv : ResetValues) (init : InitMem)
@[simp] theorem State.resetWith_cpu : (State.resetWith p rv init).cpu =
    ⟨rv.a, rv.f &&& 0xF0, rv.b, rv.c, rv.d, rv.e, rv.h, rv.l, rv.sp, rv.pc, rv.ime, rv.halted, rv.cyc, none⟩ := rfl
@[simp] theorem State.resetWith_timer : (State.resetWith p rv init).timer = rv.timer := rfl
@[simp] theorem State.resetWith_cart : (State.resetWith p rv init).cart = ⟨1, rv.ramEnabled, rv.ramBank, rv.rtcMapped,
    rv.rtcSel, init.ram, rv.rtcLive, rv.rtcLatched, rv.latchArmed, rv.rtcAcc, rv.rtcStamp⟩ := rfl
@[simp] theorem State.resetWith_params : (State.resetWith p rv init).params = p := rfl
@[simp] theorem State.resetWith_draws : (State.resetWith p rv init).draws = 0 := rfl
theorem State.resetWith_mem :
    (State.resetWith p rv init).mem = (init.mem.write 0xFF0F rv.ifByte).write 0xFFFF rv.ieByte := rfl
theorem State.reset_eq : State.reset = State.resetWith Params.defaults ResetValues.defaults InitMem.zero := rfl
end

end Sys2Proof.Machine
end

