-- ==== Sys2Proof/Laws/Encoding.lean ====
section
/-! SUPPORT. The opcode tables byte by byte: what the decoder's plan for a first byte and its reading of a second byte say of the
encoder's bytes. -/

namespace Sys2Proof

/-- Every byte is made of its three fields (R131). -/
theorem byte_fields (b : Byte) : ∃ (x : Fin 4) (y z : Fin 8), b = opByte x y z := by
  refine ⟨fieldX b, fieldY b, fieldZ b, BitVec.eq_of_toNat_eq ?_⟩
  simp only [opByte, fieldX, fieldY, fieldZ, BitVec.toNat_ofNat]
  omega

/-- The instructions of a plan are encoded with that first byte, and the plan has the first byte's length. -/
def Plan.agrees (b0 : Byte) (p : Plan) : Prop :=
  match p with
  | .done i => encode i = [b0] ∧ lengthOf b0 = 1
  | .imm8 k => (∀ n, encode (k n) = [b0, n]) ∧ lengthOf b0 = 2
  | .imm16 k => (∀ nn, encode (k nn) = [b0, loByte nn, hiByte nn]) ∧ lengthOf b0 = 3
  | .prefixed => b0 = 0xCB

theorem plan_agrees (b0 : Byte) : (plan b0).agrees b0 := by
  obtain ⟨x, y, z, rfl⟩ := byte_fields b0
  fin_cases x <;> fin_cases y <;> fin_cases z <;> first
    | exact ⟨rfl, rfl⟩
    | exact ⟨fun _ => rfl, rfl⟩
    | exact rfl

theorem encode_cbInstr (b1 : Byte) : encode (cbInstr b1) = [0xCB, b1] := by
  obtain ⟨x, y, z, rfl⟩ := byte_fields b1
  fin_cases x <;> fin_cases y <;> fin_cases z <;> rfl

theorem decode_cons (b0 : Byte) (rest : List Byte) : decode (b0 :: rest) = decodeRest b0 (plan b0) rest := rfl

end Sys2Proof
end

