-- ==== Sys2Proof/Laws/Families.lean ====
section
/-! SUPPORT. The instructions family by family: a fact of every instruction follows from one case per family of operands and
one per other instruction; and the meaning that `exec` gives each family. -/

namespace Sys2Proof

/-- A property of every instruction, from one case per family. -/
theorem Instr.by_family {P : Instr → Prop}
    (ldRegReg : ∀ (dst : Reg8) (src : Reg8), P (Instr.ldRegReg dst src))
    (ldRegAtHL : ∀ (dst : Reg8), P (Instr.ldRegAtHL dst))
    (ldAtHLReg : ∀ (src : Reg8), P (Instr.ldAtHLReg src))
    (ldLocImm : ∀ (x : Loc8) (n : Byte), P (Instr.ldLocImm x n))
    (ldAtA : ∀ (x : AddrReg), P (Instr.ldAtA x))
    (ldAAt : ∀ (x : AddrReg), P (Instr.ldAAt x))
    (ldPairImm : ∀ (p : Pair) (nn : Word), P (Instr.ldPairImm p nn))
    (push : ∀ (p : StackPair), P (Instr.push p))
    (pop : ∀ (p : StackPair), P (Instr.pop p))
    (alu : ∀ (op : AluOp) (x : Loc8), P (Instr.alu op x))
    (aluImm : ∀ (op : AluOp) (n : Byte), P (Instr.aluImm op n))
    (inc : ∀ (x : Loc8), P (Instr.inc x))
    (dec : ∀ (x : Loc8), P (Instr.dec x))
    (incPair : ∀ (p : Pair), P (Instr.incPair p))
    (decPair : ∀ (p : Pair), P (Instr.decPair p))
    (addHLPair : ∀ (p : Pair), P (Instr.addHLPair p))
    (rot : ∀ (op : RotOp) (x : Loc8), P (Instr.rot op x))
    (bit : ∀ (b : Fin 8) (x : Loc8), P (Instr.bit b x))
    (res : ∀ (b : Fin 8) (x : Loc8), P (Instr.res b x))
    (set : ∀ (b : Fin 8) (x : Loc8), P (Instr.set b x))
    (jrCond : ∀ (cc : Cond) (e : Byte), P (Instr.jrCond cc e))
    (jpCond : ∀ (cc : Cond) (nn : Word), P (Instr.jpCond cc nn))
    (callCond : ∀ (cc : Cond) (nn : Word), P (Instr.callCond cc nn))
    (retCond : ∀ (cc : Cond), P (Instr.retCond cc))
    (rst : ∀ (y : Fin 8), P (Instr.rst y))
    (ldhAtNA : ∀ n : Byte, P (.ldhAtNA n))
    (ldAtNNA : ∀ nn : Word, P (.ldAtNNA nn))
    (ldhAAtN : ∀ n : Byte, P (.ldhAAtN n))
    (ldAAtNN : ∀ nn : Word, P (.ldAAtNN nn))
    (ldAtNNSP : ∀ nn : Word, P (.ldAtNNSP nn))
    (ldHLSPPlusE : ∀ e : Byte, P (.ldHLSPPlusE e))
    (ldSPHL : P .ldSPHL)
    (daa : P .daa)
    (cpl : P .cpl)
    (scf : P .scf)
    (ccf : P .ccf)
    (addSPE : ∀ e : Byte, P (.addSPE e))
    (rlca : P .rlca)
    (rrca : P .rrca)
    (rla : P .rla)
    (rra : P .rra)
    (jr : ∀ e : Byte, P (.jr e))
    (jp : ∀ nn : Word, P (.jp nn))
    (ret : P .ret)
    (call : ∀ nn : Word, P (.call nn))
    (reti : P .reti)
    (jpHL : P .jpHL)
    (nop : P .nop)
    (stop : P .stop)
    (halt : P .halt)
    (di : P .di)
    (ei : P .ei)
    (unrecognised : ∀ i : Instr, i.isUnrecognised = true → P i) : ∀ i, P i
  | .ldAtBCA => ldAtA .bc
  | .ldBN n => ldLocImm (.reg .b) n
  | .ldAAtBC => ldAAt .bc
  | .ldCN n => ldLocImm (.reg .c) n
  | .ldAtDEA => ldAtA .de
  | .ldDN n => ldLocImm (.reg .d) n
  | .ldAAtDE => ldAAt .de
  | .ldEN n => ldLocImm (.reg .e) n
  | .ldAtHLIncA => ldAtA .hlInc
  | .ldHN n => ldLocImm (.reg .h) n
  | .ldAAtHLInc => ldAAt .hlInc
  | .ldLN n => ldLocImm (.reg .l) n
  | .ldAtHLDecA => ldAtA .hlDec
  | .ldAtHLN n => ldLocImm .atHL n
  | .ldAAtHLDec => ldAAt .hlDec
  | .ldAN n => ldLocImm (.reg .a) n
  | .ldBB => ldRegReg .b .b
  | .ldBC => ldRegReg .b .c
  | .ldBD => ldRegReg .b .d
  | .ldBE => ldRegReg .b .e
  | .ldBH => ldRegReg .b .h
  | .ldBL => ldRegReg .b .l
  | .ldBAtHL => ldRegAtHL .b
  | .ldBA => ldRegReg .b .a
  | .ldCB => ldRegReg .c .b
  | .ldCC => ldRegReg .c .c
  | .ldCD => ldRegReg .c .d
  | .ldCE => ldRegReg .c .e
  | .ldCH => ldRegReg .c .h
  | .ldCL => ldRegReg .c .l
  | .ldCAtHL => ldRegAtHL .c
  | .ldCA => ldRegReg .c .a
  | .ldDB => ldRegReg .d .b
  | .ldDC => ldRegReg .d .c
  | .ldDD => ldRegReg .d .d
  | .ldDE => ldRegReg .d .e
  | .ldDH => ldRegReg .d .h
  | .ldDL => ldRegReg .d .l
  | .ldDAtHL => ldRegAtHL .d
  | .ldDA => ldRegReg .d .a
  | .ldEB => ldRegReg .e .b
  | .ldEC => ldRegReg .e .c
  | .ldED => ldRegReg .e .d
  | .ldEE => ldRegReg .e .e
  | .ldEH => ldRegReg .e .h
  | .ldEL => ldRegReg .e .l
  | .ldEAtHL => ldRegAtHL .e
  | .ldEA => ldRegReg .e .a
  | .ldHB => ldRegReg .h .b
  | .ldHC => ldRegReg .h .c
  | .ldHD => ldRegReg .h .d
  | .ldHE => ldRegReg .h .e
  | .ldHH => ldRegReg .h .h
  | .ldHL => ldRegReg .h .l
  | .ldHAtHL => ldRegAtHL .h
  | .ldHA => ldRegReg .h .a
  | .ldLB => ldRegReg .l .b
  | .ldLC => ldRegReg .l .c
  | .ldLD => ldRegReg .l .d
  | .ldLE => ldRegReg .l .e
  | .ldLH => ldRegReg .l .h
  | .ldLL => ldRegReg .l .l
  | .ldLAtHL => ldRegAtHL .l
  | .ldLA => ldRegReg .l .a
  | .ldAtHLB => ldAtHLReg .b
  | .ldAtHLC => ldAtHLReg .c
  | .ldAtHLD => ldAtHLReg .d
  | .ldAtHLE => ldAtHLReg .e
  | .ldAtHLH => ldAtHLReg .h
  | .ldAtHLL => ldAtHLReg .l
  | .ldAtHLA => ldAtHLReg .a
  | .ldAB => ldRegReg .a .b
  | .ldAC => ldRegReg .a .c
  | .ldAD => ldRegReg .a .d
  | .ldAE => ldRegReg .a .e
  | .ldAH => ldRegReg .a .h
  | .ldAL => ldRegReg .a .l
  | .ldAAtHL => ldRegAtHL .a
  | .ldAA => ldRegReg .a .a
  | .ldhAtNA n => ldhAtNA n
  | .ldAtHighCA => ldAtA .highC
  | .ldAtNNA nn => ldAtNNA nn
  | .ldhAAtN n => ldhAAtN n
  | .ldAAtHighC => ldAAt .highC
  | .ldAAtNN nn => ldAAtNN nn
  | .ldBCNN nn => ldPairImm .bc nn
  | .ldAtNNSP nn => ldAtNNSP nn
  | .ldDENN nn => ldPairImm .de nn
  | .ldHLNN nn => ldPairImm .hl nn
  | .ldSPNN nn => ldPairImm .sp nn
  | .popBC => pop .bc
  | .pushBC => push .bc
  | .popDE => pop .de
  | .pushDE => push .de
  | .popHL => pop .hl
  | .pushHL => push .hl
  | .popAF => pop .af
  | .pushAF => push .af
  | .ldHLSPPlusE e => ldHLSPPlusE e
  | .ldSPHL => ldSPHL
  | .incB => inc (.reg .b)
  | .decB => dec (.reg .b)
  | .incC => inc (.reg .c)
  | .decC => dec (.reg .c)
  | .incD => inc (.reg .d)
  | .decD => dec (.reg .d)
  | .incE => inc (.reg .e)
  | .decE => dec (.reg .e)
  | .incH => inc (.reg .h)
  | .decH => dec (.reg .h)
  | .daa => daa
  | .incL => inc (.reg .l)
  | .decL => dec (.reg .l)
  | .cpl => cpl
  | .incAtHL => inc .atHL
  | .decAtHL => dec .atHL
  | .scf => scf
  | .incA => inc (.reg .a)
  | .decA => dec (.reg .a)
  | .ccf => ccf
  | .addAB => alu .add (.reg .b)
  | .addAC => alu .add (.reg .c)
  | .addAD => alu .add (.reg .d)
  | .addAE => alu .add (.reg .e)
  | .addAH => alu .add (.reg .h)
  | .addAL => alu .add (.reg .l)
  | .addAAtHL => alu .add .atHL
  | .addAA => alu .add (.reg .a)
  | .adcAB => alu .adc (.reg .b)
  | .adcAC => alu .adc (.reg .c)
  | .adcAD => alu .adc (.reg .d)
  | .adcAE => alu .adc (.reg .e)
  | .adcAH => alu .adc (.reg .h)
  | .adcAL => alu .adc (.reg .l)
  | .adcAAtHL => alu .adc .atHL
  | .adcAA => alu .adc (.reg .a)
  | .subB => alu .sub (.reg .b)
  | .subC => alu .sub (.reg .c)
  | .subD => alu .sub (.reg .d)
  | .subE => alu .sub (.reg .e)
  | .subH => alu .sub (.reg .h)
  | .subL => alu .sub (.reg .l)
  | .subAtHL => alu .sub .atHL
  | .subA => alu .sub (.reg .a)
  | .sbcAB => alu .sbc (.reg .b)
  | .sbcAC => alu .sbc (.reg .c)
  | .sbcAD => alu .sbc (.reg .d)
  | .sbcAE => alu .sbc (.reg .e)
  | .sbcAH => alu .sbc (.reg .h)
  | .sbcAL => alu .sbc (.reg .l)
  | .sbcAAtHL => alu .sbc .atHL
  | .sbcAA => alu .sbc (.reg .a)
  | .andB => alu .and (.reg .b)
  | .andC => alu .and (.reg .c)
  | .andD => alu .and (.reg .d)
  | .andE => alu .and (.reg .e)
  | .andH => alu .and (.reg .h)
  | .andL => alu .and (.reg .l)
  | .andAtHL => alu .and .atHL
  | .andA => alu .and (.reg .a)
  | .xorB => alu .xor (.reg .b)
  | .xorC => alu .xor (.reg .c)
  | .xorD => alu .xor (.reg .d)
  | .xorE => alu .xor (.reg .e)
  | .xorH => alu .xor (.reg .h)
  | .xorL => alu .xor (.reg .l)
  | .xorAtHL => alu .xor .atHL
  | .xorA => alu .xor (.reg .a)
  | .orB => alu .or (.reg .b)
  | .orC => alu .or (.reg .c)
  | .orD => alu .or (.reg .d)
  | .orE => alu .or (.reg .e)
  | .orH => alu .or (.reg .h)
  | .orL => alu .or (.reg .l)
  | .orAtHL => alu .or .atHL
  | .orA => alu .or (.reg .a)
  | .cpB => alu .cp (.reg .b)
  | .cpC => alu .cp (.reg .c)
  | .cpD => alu .cp (.reg .d)
  | .cpE => alu .cp (.reg .e)
  | .cpH => alu .cp (.reg .h)
  | .cpL => alu .cp (.reg .l)
  | .cpAtHL => alu .cp .atHL
  | .cpA => alu .cp (.reg .a)
  | .addAN n => aluImm .add n
  | .adcAN n => aluImm .adc n
  | .subN n => aluImm .sub n
  | .sbcAN n => aluImm .sbc n
  | .andN n => aluImm .and n
  | .xorN n => aluImm .xor n
  | .orN n => aluImm .or n
  | .cpN n => aluImm .cp n
  | .incBC => incPair .bc
  | .addHLBC => addHLPair .bc
  | .decBC => decPair .bc
  | .incDE => incPair .de
  | .addHLDE => addHLPair .de
  | .decDE => decPair .de
  | .incHL => incPair .hl
  | .addHLHL => addHLPair .hl
  | .decHL => decPair .hl
  | .incSP => incPair .sp
  | .addHLSP => addHLPair .sp
  | .decSP => decPair .sp
  | .addSPE e => addSPE e
  | .rlca => rlca
  | .rrca => rrca
  | .rla => rla
  | .rra => rra
  | .rlcB => rot .rlc (.reg .b)
  | .rlcC => rot .rlc (.reg .c)
  | .rlcD => rot .rlc (.reg .d)
  | .rlcE => rot .rlc (.reg .e)
  | .rlcH => rot .rlc (.reg .h)
  | .rlcL => rot .rlc (.reg .l)
  | .rlcAtHL => rot .rlc .atHL
  | .rlcA => rot .rlc (.reg .a)
  | .rrcB => rot .rrc (.reg .b)
  | .rrcC => rot .rrc (.reg .c)
  | .rrcD => rot .rrc (.reg .d)
  | .rrcE => rot .rrc (.reg .e)
  | .rrcH => rot .rrc (.reg .h)
  | .rrcL => rot .rrc (.reg .l)
  | .rrcAtHL => rot .rrc .atHL
  | .rrcA => rot .rrc (.reg .a)
  | .rlB => rot .rl (.reg .b)
  | .rlC => rot .rl (.reg .c)
  | .rlD => rot .rl (.reg .d)
  | .rlE => rot .rl (.reg .e)
  | .rlH => rot .rl (.reg .h)
  | .rlL => rot .rl (.reg .l)
  | .rlAtHL => rot .rl .atHL
  | .rlA => rot .rl (.reg .a)
  | .rrB => rot .rr (.reg .b)
  | .rrC => rot .rr (.reg .c)
  | .rrD => rot .rr (.reg .d)
  | .rrE => rot .rr (.reg .e)
  | .rrH => rot .rr (.reg .h)
  | .rrL => rot .rr (.reg .l)
  | .rrAtHL => rot .rr .atHL
  | .rrA => rot .rr (.reg .a)
  | .slaB => rot .sla (.reg .b)
  | .slaC => rot .sla (.reg .c)
  | .slaD => rot .sla (.reg .d)
  | .slaE => rot .sla (.reg .e)
  | .slaH => rot .sla (.reg .h)
  | .slaL => rot .sla (.reg .l)
  | .slaAtHL => rot .sla .atHL
  | .slaA => rot .sla (.reg .a)
  | .sraB => rot .sra (.reg .b)
  | .sraC => rot .sra (.reg .c)
  | .sraD => rot .sra (.reg .d)
  | .sraE => rot .sra (.reg .e)
  | .sraH => rot .sra (.reg .h)
  | .sraL => rot .sra (.reg .l)
  | .sraAtHL => rot .sra .atHL
  | .sraA => rot .sra (.reg .a)
  | .swapB => rot .swap (.reg .b)
  | .swapC => rot .swap (.reg .c)
  | .swapD => rot .swap (.reg .d)
  | .swapE => rot .swap (.reg .e)
  | .swapH => rot .swap (.reg .h)
  | .swapL => rot .swap (.reg .l)
  | .swapAtHL => rot .swap .atHL
  | .swapA => rot .swap (.reg .a)
  | .srlB => rot .srl (.reg .b)
  | .srlC => rot .srl (.reg .c)
  | .srlD => rot .srl (.reg .d)
  | .srlE => rot .srl (.reg .e)
  | .srlH => rot .srl (.reg .h)
  | .srlL => rot .srl (.reg .l)
  | .srlAtHL => rot .srl .atHL
  | .srlA => rot .srl (.reg .a)
  | .bit0B => bit 0 (.reg .b)
  | .bit0C => bit 0 (.reg .c)
  | .bit0D => bit 0 (.reg .d)
  | .bit0E => bit 0 (.reg .e)
  | .bit0H => bit 0 (.reg .h)
  | .bit0L => bit 0 (.reg .l)
  | .bit0AtHL => bit 0 .atHL
  | .bit0A => bit 0 (.reg .a)
  | .bit1B => bit 1 (.reg .b)
  | .bit1C => bit 1 (.reg .c)
  | .bit1D => bit 1 (.reg .d)
  | .bit1E => bit 1 (.reg .e)
  | .bit1H => bit 1 (.reg .h)
  | .bit1L => bit 1 (.reg .l)
  | .bit1AtHL => bit 1 .atHL
  | .bit1A => bit 1 (.reg .a)
  | .bit2B => bit 2 (.reg .b)
  | .bit2C => bit 2 (.reg .c)
  | .bit2D => bit 2 (.reg .d)
  | .bit2E => bit 2 (.reg .e)
  | .bit2H => bit 2 (.reg .h)
  | .bit2L => bit 2 (.reg .l)
  | .bit2AtHL => bit 2 .atHL
  | .bit2A => bit 2 (.reg .a)
  | .bit3B => bit 3 (.reg .b)
  | .bit3C => bit 3 (.reg .c)
  | .bit3D => bit 3 (.reg .d)
  | .bit3E => bit 3 (.reg .e)
  | .bit3H => bit 3 (.reg .h)
  | .bit3L => bit 3 (.reg .l)
  | .bit3AtHL => bit 3 .atHL
  | .bit3A => bit 3 (.reg .a)
  | .bit4B => bit 4 (.reg .b)
  | .bit4C => bit 4 (.reg .c)
  | .bit4D => bit 4 (.reg .d)
  | .bit4E => bit 4 (.reg .e)
  | .bit4H => bit 4 (.reg .h)
  | .bit4L => bit 4 (.reg .l)
  | .bit4AtHL => bit 4 .atHL
  | .bit4A => bit 4 (.reg .a)
  | .bit5B => bit 5 (.reg .b)
  | .bit5C => bit 5 (.reg .c)
  | .bit5D => bit 5 (.reg .d)
  | .bit5E => bit 5 (.reg .e)
  | .bit5H => bit 5 (.reg .h)
  | .bit5L => bit 5 (.reg .l)
  | .bit5AtHL => bit 5 .atHL
  | .bit5A => bit 5 (.reg .a)
  | .bit6B => bit 6 (.reg .b)
  | .bit6C => bit 6 (.reg .c)
  | .bit6D => bit 6 (.reg .d)
  | .bit6E => bit 6 (.reg .e)
  | .bit6H => bit 6 (.reg .h)
  | .bit6L => bit 6 (.reg .l)
  | .bit6AtHL => bit 6 .atHL
  | .bit6A => bit 6 (.reg .a)
  | .bit7B => bit 7 (.reg .b)
  | .bit7C => bit 7 (.reg .c)
  | .bit7D => bit 7 (.reg .d)
  | .bit7E => bit 7 (.reg .e)
  | .bit7H => bit 7 (.reg .h)
  | .bit7L => bit 7 (.reg .l)
  | .bit7AtHL => bit 7 .atHL
  | .bit7A => bit 7 (.reg .a)
  | .res0B => res 0 (.reg .b)
  | .res0C => res 0 (.reg .c)
  | .res0D => res 0 (.reg .d)
  | .res0E => res 0 (.reg .e)
  | .res0H => res 0 (.reg .h)
  | .res0L => res 0 (.reg .l)
  | .res0AtHL => res 0 .atHL
  | .res0A => res 0 (.reg .a)
  | .res1B => res 1 (.reg .b)
  | .res1C => res 1 (.reg .c)
  | .res1D => res 1 (.reg .d)
  | .res1E => res 1 (.reg .e)
  | .res1H => res 1 (.reg .h)
  | .res1L => res 1 (.reg .l)
  | .res1AtHL => res 1 .atHL
  | .res1A => res 1 (.reg .a)
  | .res2B => res 2 (.reg .b)
  | .res2C => res 2 (.reg .c)
  | .res2D => res 2 (.reg .d)
  | .res2E => res 2 (.reg .e)
  | .res2H => res 2 (.reg .h)
  | .res2L => res 2 (.reg .l)
  | .res2AtHL => res 2 .atHL
  | .res2A => res 2 (.reg .a)
  | .res3B => res 3 (.reg .b)
  | .res3C => res 3 (.reg .c)
  | .res3D => res 3 (.reg .d)
  | .res3E => res 3 (.reg .e)
  | .res3H => res 3 (.reg .h)
  | .res3L => res 3 (.reg .l)
  | .res3AtHL => res 3 .atHL
  | .res3A => res 3 (.reg .a)
  | .res4B => res 4 (.reg .b)
  | .res4C => res 4 (.reg .c)
  | .res4D => res 4 (.reg .d)
  | .res4E => res 4 (.reg .e)
  | .res4H => res 4 (.reg .h)
  | .res4L => res 4 (.reg .l)
  | .res4AtHL => res 4 .atHL
  | .res4A => res 4 (.reg .a)
  | .res5B => res 5 (.reg .b)
  | .res5C => res 5 (.reg .c)
  | .res5D => res 5 (.reg .d)
  | .res5E => res 5 (.reg .e)
  | .res5H => res 5 (.reg .h)
  | .res5L => res 5 (.reg .l)
  | .res5AtHL => res 5 .atHL
  | .res5A => res 5 (.reg .a)
  | .res6B => res 6 (.reg .b)
  | .res6C => res 6 (.reg .c)
  | .res6D => res 6 (.reg .d)
  | .res6E => res 6 (.reg .e)
  | .res6H => res 6 (.reg .h)
  | .res6L => res 6 (.reg .l)
  | .res6AtHL => res 6 .atHL
  | .res6A => res 6 (.reg .a)
  | .res7B => res 7 (.reg .b)
  | .res7C => res 7 (.reg .c)
  | .res7D => res 7 (.reg .d)
  | .res7E => res 7 (.reg .e)
  | .res7H => res 7 (.reg .h)
  | .res7L => res 7 (.reg .l)
  | .res7AtHL => res 7 .atHL
  | .res7A => res 7 (.reg .a)
  | .set0B => set 0 (.reg .b)
  | .set0C => set 0 (.reg .c)
  | .set0D => set 0 (.reg .d)
  | .set0E => set 0 (.reg .e)
  | .set0H => set 0 (.reg .h)
  | .set0L => set 0 (.reg .l)
  | .set0AtHL => set 0 .atHL
  | .set0A => set 0 (.reg .a)
  | .set1B => set 1 (.reg .b)
  | .set1C => set 1 (.reg .c)
  | .set1D => set 1 (.reg .d)
  | .set1E => set 1 (.reg .e)
  | .set1H => set 1 (.reg .h)
  | .set1L => set 1 (.reg .l)
  | .set1AtHL => set 1 .atHL
  | .set1A => set 1 (.reg .a)
  | .set2B => set 2 (.reg .b)
  | .set2C => set 2 (.reg .c)
  | .set2D => set 2 (.reg .d)
  | .set2E => set 2 (.reg .e)
  | .set2H => set 2 (.reg .h)
  | .set2L => set 2 (.reg .l)
  | .set2AtHL => set 2 .atHL
  | .set2A => set 2 (.reg .a)
  | .set3B => set 3 (.reg .b)
  | .set3C => set 3 (.reg .c)
  | .set3D => set 3 (.reg .d)
  | .set3E => set 3 (.reg .e)
  | .set3H => set 3 (.reg .h)
  | .set3L => set 3 (.reg .l)
  | .set3AtHL => set 3 .atHL
  | .set3A => set 3 (.reg .a)
  | .set4B => set 4 (.reg .b)
  | .set4C => set 4 (.reg .c)
  | .set4D => set 4 (.reg .d)
  | .set4E => set 4 (.reg .e)
  | .set4H => set 4 (.reg .h)
  | .set4L => set 4 (.reg .l)
  | .set4AtHL => set 4 .atHL
  | .set4A => set 4 (.reg .a)
  | .set5B => set 5 (.reg .b)
  | .set5C => set 5 (.reg .c)
  | .set5D => set 5 (.reg .d)
  | .set5E => set 5 (.reg .e)
  | .set5H => set 5 (.reg .h)
  | .set5L => set 5 (.reg .l)
  | .set5AtHL => set 5 .atHL
  | .set5A => set 5 (.reg .a)
  | .set6B => set 6 (.reg .b)
  | .set6C => set 6 (.reg .c)
  | .set6D => set 6 (.reg .d)
  | .set6E => set 6 (.reg .e)
  | .set6H => set 6 (.reg .h)
  | .set6L => set 6 (.reg .l)
  | .set6AtHL => set 6 .atHL
  | .set6A => set 6 (.reg .a)
  | .set7B => set 7 (.reg .b)
  | .set7C => set 7 (.reg .c)
  | .set7D => set 7 (.reg .d)
  | .set7E => set 7 (.reg .e)
  | .set7H => set 7 (.reg .h)
  | .set7L => set 7 (.reg .l)
  | .set7AtHL => set 7 .atHL
  | .set7A => set 7 (.reg .a)
  | .jr e => jr e
  | .jrNZ e => jrCond .nz e
  | .jrZ e => jrCond .z e
  | .jrNC e => jrCond .nc e
  | .jrC e => jrCond .c e
  | .retNZ => retCond .nz
  | .jpNZ nn => jpCond .nz nn
  | .jp nn => jp nn
  | .callNZ nn => callCond .nz nn
  | .rst00 => rst 0
  | .retZ => retCond .z
  | .ret => ret
  | .jpZ nn => jpCond .z nn
  | .callZ nn => callCond .z nn
  | .call nn => call nn
  | .rst08 => rst 1
  | .retNC => retCond .nc
  | .jpNC nn => jpCond .nc nn
  | .callNC nn => callCond .nc nn
  | .rst10 => rst 2
  | .retC => retCond .c
  | .reti => reti
  | .jpC nn => jpCond .c nn
  | .callC nn => callCond .c nn
  | .rst18 => rst 3
  | .rst20 => rst 4
  | .jpHL => jpHL
  | .rst28 => rst 5
  | .rst30 => rst 6
  | .rst38 => rst 7
  | .nop => nop
  | .stop => stop
  | .halt => halt
  | .unrecognisedD3 => unrecognised _ rfl
  | .unrecognisedDB => unrecognised _ rfl
  | .unrecognisedDD => unrecognised _ rfl
  | .unrecognisedE3 => unrecognised _ rfl
  | .unrecognisedE4 => unrecognised _ rfl
  | .unrecognisedEB => unrecognised _ rfl
  | .unrecognisedEC => unrecognised _ rfl
  | .unrecognisedED => unrecognised _ rfl
  | .di => di
  | .unrecognisedF4 => unrecognised _ rfl
  | .ei => ei
  | .unrecognisedFC => unrecognised _ rfl
  | .unrecognisedFD => unrecognised _ rfl

end Sys2Proof

namespace Sys2Proof.Machine

theorem exec_ldRegReg (dst : Reg8) (src : Reg8) (st : State) : exec (Instr.ldRegReg dst src) st = .next (ldRegReg dst src st) := by
  cases dst <;> cases src <;> rfl

theorem exec_ldRegAtHL (dst : Reg8) (st : State) : exec (Instr.ldRegAtHL dst) st = .next (ldRegAtHL dst st) := by
  cases dst <;> rfl

theorem exec_ldAtHLReg (src : Reg8) (st : State) : exec (Instr.ldAtHLReg src) st = .next (ldAtHLReg src st) := by
  cases src <;> rfl

theorem exec_ldLocImm (x : Loc8) (n : Byte) (st : State) : exec (Instr.ldLocImm x n) st = .next (ldLocImm x n st) := by
  (rcases x with r | _) <;> (try cases r) <;> rfl

theorem exec_ldAtA (x : AddrReg) (st : State) : exec (Instr.ldAtA x) st = .next (ldAtA x st) := by
  cases x <;> rfl

theorem exec_ldAAt (x : AddrReg) (st : State) : exec (Instr.ldAAt x) st = .next (ldAAt x st) := by
  cases x <;> rfl

theorem exec_ldPairImm (p : Pair) (nn : Word) (st : State) : exec (Instr.ldPairImm p nn) st = .next (ldPairImm p nn st) := by
  cases p <;> rfl

theorem exec_push (p : StackPair) (st : State) : exec (Instr.push p) st = .next (push p st) := by
  cases p <;> rfl

theorem exec_pop (p : StackPair) (st : State) : exec (Instr.pop p) st = .next (pop p st) := by
  cases p <;> rfl

theorem exec_alu (op : AluOp) (x : Loc8) (st : State) : exec (Instr.alu op x) st = .next (aluLoc op x st) := by
  cases op <;> (rcases x with r | _) <;> (try cases r) <;> rfl

theorem exec_aluImm (op : AluOp) (n : Byte) (st : State) : exec (Instr.aluImm op n) st = .next (aluImm op n st) := by
  cases op <;> rfl

theorem exec_inc (x : Loc8) (st : State) : exec (Instr.inc x) st = .next (incLoc x st) := by
  (rcases x with r | _) <;> (try cases r) <;> rfl

theorem exec_dec (x : Loc8) (st : State) : exec (Instr.dec x) st = .next (decLoc x st) := by
  (rcases x with r | _) <;> (try cases r) <;> rfl

theorem exec_incPair (p : Pair) (st : State) : exec (Instr.incPair p) st = .next (incPair p st) := by
  cases p <;> rfl

theorem exec_decPair (p : Pair) (st : State) : exec (Instr.decPair p) st = .next (decPair p st) := by
  cases p <;> rfl

theorem exec_addHLPair (p : Pair) (st : State) : exec (Instr.addHLPair p) st = .next (addHLPair p st) := by
  cases p <;> rfl

theorem exec_rot (op : RotOp) (x : Loc8) (st : State) : exec (Instr.rot op x) st = .next (rotLoc op x st) := by
  cases op <;> (rcases x with r | _) <;> (try cases r) <;> rfl

theorem exec_bit (b : Fin 8) (x : Loc8) (st : State) : exec (Instr.bit b x) st = .next (bitLoc b x st) := by
  fin_cases b <;> (rcases x with r | _) <;> (try cases r) <;> rfl

theorem exec_res (b : Fin 8) (x : Loc8) (st : State) : exec (Instr.res b x) st = .next (resLoc b x st) := by
  fin_cases b <;> (rcases x with r | _) <;> (try cases r) <;> rfl

theorem exec_set (b : Fin 8) (x : Loc8) (st : State) : exec (Instr.set b x) st = .next (setLoc b x st) := by
  fin_cases b <;> (rcases x with r | _) <;> (try cases r) <;> rfl

theorem exec_jrCond (cc : Cond) (e : Byte) (st : State) : exec (Instr.jrCond cc e) st = .next (jrCond cc e st) := by
  cases cc <;> rfl

theorem exec_jpCond (cc : Cond) (nn : Word) (st : State) : exec (Instr.jpCond cc nn) st = .next (jpCond cc nn st) := by
  cases cc <;> rfl

theorem exec_callCond (cc : Cond) (nn : Word) (st : State) : exec (Instr.callCond cc nn) st = .next (callCond cc nn st) := by
  cases cc <;> rfl

theorem exec_retCond (cc : Cond) (st : State) : exec (Instr.retCond cc) st = .next (retCond cc st) := by
  cases cc <;> rfl

theorem exec_rst (y : Fin 8) (st : State) : exec (Instr.rst y) st = .next (rst y st) := by
  fin_cases y <;> rfl

/-- An unrecognised byte latches itself and the address before PC (R355). -/
theorem exec_unrecognised (i : Instr) (h : i.isUnrecognised = true) (st : State) :
    exec i st = .next (unrecognised ((encode i).headD 0) st) := by
  revert h
  cases i <;> intro h <;> first | exact nomatch (show false = true from h) | rfl

end Sys2Proof.Machine
end

