-- ==== Sys2Proof/Laws/Ops.lean ====
section
/-! SUPPORT. The shared operations over registers and memory: what each does to the CPU's registers, and how it keeps memory. -/

namespace Sys2Proof.Machine

theorem fetch8_eq (s : State) :
    fetch8 s = ((routeRead s.cpu.pc s).1, (tick 4 (routeRead s.cpu.pc s).2).setPc (s.cpu.pc + 1)) := by
  simp [fetch8, memRead_eq]

@[simp] theorem fetch8_cpu (s : State) :
    (fetch8 s).2.cpu = { s.cpu with pc := s.cpu.pc + 1, cyc := s.cpu.cyc + 4 } := by
  simp [fetch8_eq, State.setPc]

@[simp] theorem fetch8_params (s : State) : (fetch8 s).2.params = s.params := by simp [fetch8_eq]

theorem fetchInstr_eq (s : State) : fetchInstr s = fetchRest (plan (fetch8 s).1) (fetch8 s).2 := by
  rcases e : fetch8 s with ⟨b0, s1⟩
  rw [fetchInstr, e]

theorem setPc_kept (v : Word) (s : State) : MemoryKept s (s.setPc v) := MemoryKept.of_eq rfl rfl rfl rfl
theorem setSp_kept (v : Word) (s : State) : MemoryKept s (s.setSp v) := MemoryKept.of_eq rfl rfl rfl rfl

theorem fetch8_wf (s : State) (h : s.mem.wf = true) : (fetch8 s).2.mem.wf = true := by
  rw [fetch8_eq]; exact tick_wf _ _ (by simpa using h)

/-- A fetch keeps memory as passing time does. -/
theorem fetch8_kept (s : State) (h : s.mem.wf = true) : MemoryKept s (fetch8 s).2 :=
  (memRead_kept s.cpu.pc s h).trans (setPc_kept _ _)

/-- Fetching m bytes and then n is fetching m + n. -/
theorem fetchBytes_add (m n : Nat) (s : State) : fetchBytes (m + n) s =
    ((fetchBytes m s).1 ++ (fetchBytes n (fetchBytes m s).2).1, (fetchBytes n (fetchBytes m s).2).2) := by
  induction m generalizing s with
  | zero => simp [fetchBytes]
  | succ m ih => rw [show m + 1 + n = m + n + 1 by omega]; simp [fetchBytes, ih]

/-- Fetching n bytes advances PC by n and costs 4 n cycles; no other register changes (R33, R99). -/
theorem fetchBytes_cpu (n : Nat) (s : State) :
    (fetchBytes n s).2.cpu = { s.cpu with pc := s.cpu.pc + BitVec.ofNat 16 n, cyc := s.cpu.cyc + 4 * n } := by
  induction n generalizing s with
  | zero => simp [fetchBytes]
  | succ n ih =>
    simp only [fetchBytes, ih, fetch8_cpu, BitVec.ofNat_add]
    rw [BitVec.add_assoc, BitVec.add_comm (BitVec.ofNat 16 n), show s.cpu.cyc + 4 + 4 * n = s.cpu.cyc + 4 * (n + 1) by omega]
    rfl

theorem fetchBytes_length (n : Nat) (s : State) : (fetchBytes n s).1.length = n := by
  induction n generalizing s with
  | zero => rfl
  | succ n ih => simp [fetchBytes, ih]

theorem memRead2_eq (a : Word) (s : State) : memRead2 a s =
    (joinBytes (memRead (a + 1) (memRead a s).2).1 (memRead a s).1, (memRead (a + 1) (memRead a s).2).2) := by
  simp only [memRead2]

@[simp] theorem memRead2_cpu (a : Word) (s : State) :
    (memRead2 a s).2.cpu = { s.cpu with cyc := s.cpu.cyc + 8 } := by simp [memRead2_eq]
@[simp] theorem memRead2_params (a : Word) (s : State) : (memRead2 a s).2.params = s.params := by simp [memRead2_eq]
theorem memRead2_wf (a : Word) (s : State) (h : s.mem.wf = true) : (memRead2 a s).2.mem.wf = true :=
  memRead_wf _ _ (memRead_wf _ _ h)
theorem memRead2_kept (a : Word) (s : State) (h : s.mem.wf = true) : MemoryKept s (memRead2 a s).2 :=
  (memRead_kept a s h).trans (memRead_kept _ _ (memRead_wf _ _ h))

theorem memWrite2_eq (a v : Word) (s : State) : memWrite2 a v s = memWrite (a + 1) (hiByte v) (memWrite a (loByte v) s) := rfl

@[simp] theorem memWrite2_cpu (a v : Word) (s : State) :
    (memWrite2 a v s).cpu = { s.cpu with cyc := s.cpu.cyc + 8 } := by simp [memWrite2_eq]
@[simp] theorem memWrite2_params (a v : Word) (s : State) : (memWrite2 a v s).params = s.params := by simp [memWrite2_eq]

theorem push16_eq (v : Word) (s : State) : push16 v s = memWrite2 (s.cpu.sp - 2) v (s.setSp (s.cpu.sp - 2)) := rfl

/-- A push moves SP down by 2 and costs 8 cycles; no other register changes (R204). -/
@[simp] theorem push16_cpu (v : Word) (s : State) :
    (push16 v s).cpu = { s.cpu with sp := s.cpu.sp - 2, cyc := s.cpu.cyc + 8 } := by simp [push16_eq, State.setSp]
@[simp] theorem push16_params (v : Word) (s : State) : (push16 v s).params = s.params := by simp [push16_eq]

theorem pop16_eq (s : State) :
    pop16 s = ((memRead2 s.cpu.sp s).1, (memRead2 s.cpu.sp s).2.setSp (s.cpu.sp + 2)) := by simp [pop16]

/-- A pop moves SP up by 2 and costs 8 cycles; no other register changes (R205). -/
@[simp] theorem pop16_cpu (s : State) :
    (pop16 s).2.cpu = { s.cpu with sp := s.cpu.sp + 2, cyc := s.cpu.cyc + 8 } := by simp [pop16_eq, State.setSp]
@[simp] theorem pop16_params (s : State) : (pop16 s).2.params = s.params := by simp [pop16_eq]
theorem pop16_kept (s : State) (h : s.mem.wf = true) : MemoryKept s (pop16 s).2 := by
  rw [pop16_eq]; exact (memRead2_kept _ _ h).trans (setSp_kept _ _)

/-- Interrupt entry saves PC, moves SP down by 2, clears IME, goes to the vector and costs 16 cycles (R407, R409). -/
@[simp] theorem enterInterrupt_cpu (i : Nat) (s : State) :
    (enterInterrupt i s).cpu =
      { s.cpu with sp := s.cpu.sp - 2, pc := interruptVector i, ime := false, cyc := s.cpu.cyc + 16 } := by
  simp [enterInterrupt, State.setPc, State.setIme]

/-- Interrupt entry is a push from the state in which 8 idle cycles have passed and the request bit and IME are clear (R407). -/
theorem enterInterrupt_eq (i : Nat) (s : State) : enterInterrupt i s = (push16 s.cpu.pc
    (((tick 8 s).setIf ((tick 8 s).ifByte &&& ~~~(1#8 <<< i))).setIme false)).setPc (interruptVector i) := by
  simp [enterInterrupt, State.setIme]
@[simp] theorem enterInterrupt_params (i : Nat) (s : State) : (enterInterrupt i s).params = s.params := by
  simp [enterInterrupt]

@[simp] theorem returnFromInterrupt_cpu (s : State) : (returnFromInterrupt s).cpu =
    { s.cpu with sp := s.cpu.sp + 2, pc := (pop16 s).1, ime := true, cyc := s.cpu.cyc + 12 } := by
  simp [returnFromInterrupt, State.setPc, State.setIme]

/-- Everything the scan can do: enter the first request that is enabled, else only wake the CPU if some request is set. -/
theorem interruptScan_eq (ifv iev : Byte) (is : List Nat) (s : State) : interruptScan ifv iev is s =
    match is.find? (fun i => s.cpu.ime && (ifv.getLsbD i && iev.getLsbD i)) with
    | some i => enterInterrupt i (s.setHalted false)
    | none => if is.any (fun i => ifv.getLsbD i) then s.setHalted false else s := by
  induction is generalizing s with
  | nil => rfl
  | cons i is ih =>
    simp only [interruptScan, List.find?_cons, List.any_cons]
    by_cases hi : ifv.getLsbD i = true
    · by_cases he : (s.cpu.ime && iev.getLsbD i) = true
      · simp only [hi, if_true, he, Bool.true_and]
      · rw [if_pos hi, if_neg he, ih]
        have he' : (s.cpu.ime && (ifv.getLsbD i && iev.getLsbD i)) = false := by simp only [hi, Bool.true_and]; simpa using he
        simp only [he', State.setHalted_ime]
        simp only [hi, Bool.true_or, if_true]
        cases is.find? fun i => s.cpu.ime && (ifv.getLsbD i && iev.getLsbD i) with
        | some j => rfl
        | none => dsimp only; split <;> rfl
    · have hi' : ifv.getLsbD i = false := by simpa using hi
      rw [if_neg hi, ih]
      simp only [hi', Bool.false_and, Bool.and_false, Bool.false_or]

/-- Everything the interrupt check can do (R407, R408). -/
theorem interruptCheck_cases (s : State) :
    (∃ i, i < 5 ∧ s.cpu.ime = true ∧ s.ifByte.getLsbD i = true ∧ s.ieByte.getLsbD i = true ∧
      interruptCheck s = enterInterrupt i (s.setHalted false)) ∨
    interruptCheck s = s.setHalted false ∨ interruptCheck s = s := by
  unfold interruptCheck
  rw [interruptScan_eq]
  cases h : [0, 1, 2, 3, 4].find? (fun i => s.cpu.ime && (s.ifByte.getLsbD i && s.ieByte.getLsbD i)) with
  | some i =>
    have h1 := List.find?_some h
    have h2 := List.mem_of_find?_eq_some h
    simp only [Bool.and_eq_true] at h1
    refine .inl ⟨i, ?_, h1.1, h1.2.1, h1.2.2, rfl⟩
    simp only [List.mem_cons, List.not_mem_nil, or_false] at h2
    omega
  | none =>
    dsimp only
    split
    · exact .inr (.inl rfl)
    · exact .inr (.inr rfl)

/-- Everything the collaborators can do between two steps: nothing, or a fresh draw that may request Joypad (R404). -/
theorem betweenSteps_cases (s : State) : (s.params.ext = .stub ∧ betweenSteps s = s) ∨
    betweenSteps s = { s with draws := s.draws + 1 } ∨ betweenSteps s = { s.request 0x10 with draws := s.draws + 1 } := by
  unfold betweenSteps; split
  · exact .inl ⟨‹_›, rfl⟩
  · dsimp only; split
    · exact .inr (.inr rfl)
    · exact .inr (.inl rfl)
@[simp] theorem betweenSteps_cpu (s : State) : (betweenSteps s).cpu = s.cpu := by
  rcases betweenSteps_cases s with ⟨_, h⟩ | h | h <;> simp [h]
@[simp] theorem betweenSteps_timer (s : State) : (betweenSteps s).timer = s.timer := by
  rcases betweenSteps_cases s with ⟨_, h⟩ | h | h <;> simp [h]
@[simp] theorem betweenSteps_cart (s : State) : (betweenSteps s).cart = s.cart := by
  rcases betweenSteps_cases s with ⟨_, h⟩ | h | h <;> simp [h]
@[simp] theorem betweenSteps_params (s : State) : (betweenSteps s).params = s.params := by
  rcases betweenSteps_cases s with ⟨_, h⟩ | h | h <;> simp [h]
theorem betweenSteps_stub (s : State) (h : s.params.ext = .stub) : betweenSteps s = s := by
  unfold betweenSteps; rw [h]
theorem betweenSteps_mem (s : State) : (betweenSteps s).mem = s.mem ∨
    (betweenSteps s).mem = s.mem.write 0xFF0F (s.ifByte ||| 0x10) := by
  rcases betweenSteps_cases s with ⟨_, h⟩ | h | h <;> rw [h] <;> first | exact .inl rfl | exact .inr rfl

end Sys2Proof.Machine
end

