-- ==== Sys2Proof/Laws/Invariant.lean ====
section
/-! SUPPORT. The machine's invariant through each shared operation. The operations run while no fatal error is latched, so each
lemma asks for that too. -/

namespace Sys2Proof.Machine

/-- The invariant, and no latched error. -/
def State.Good (s : State) : Prop := s.Inv ∧ s.cpu.fault = none

/-- A state that differs in CPU registers and draws only: F's low nibble and the cycle count are left to show. -/
theorem State.Good.of_same {s t : State} (h : s.Good) (hf : t.cpu.f &&& 0x0F = 0) (hc : t.cpu.cyc % 4 = 0)
    (hfault : t.cpu.fault = none) (hm : t.mem = s.mem) (hca : t.cart = s.cart) (ht : t.timer = s.timer)
    (hp : t.params = s.params) : t.Good := by
  obtain ⟨h, h0⟩ := h
  refine ⟨⟨hf, hc, fun _ _ e => ?_, hm ▸ h.mem_wf, hm ▸ h.mem_range, hca ▸ h.ram_wf, hca ▸ h.ram_range, hp ▸ h.rom_wf,
    by rw [hp, hca]; exact h.bank, ht ▸ h.delay, ?_, hca ▸ h.live_masked, hca ▸ h.latched_masked,
    by rw [hp, hca]; exact h.rtc_mapped, by rw [hp, hca]; exact h.acc⟩, hfault⟩
  · rw [hfault] at e; cases e
  · rw [ht]; exact h.edge

theorem State.Good.setReg8 {s : State} (h : s.Good) (r : Reg8) (v : Byte) : (s.setReg8 r v).Good :=
  h.of_same (by simpa using h.1.f_low) (by simpa using h.1.cyc_aligned) (by simpa using h.2) (by simp) (by simp) (by simp) (by simp)
theorem State.Good.setPair {s : State} (h : s.Good) (p : Pair) (v : Word) : (s.setPair p v).Good :=
  h.of_same (by simpa using h.1.f_low) (by simpa using h.1.cyc_aligned) (by simpa using h.2) (by simp) (by simp) (by simp) (by simp)
theorem State.Good.setF {s : State} (h : s.Good) (v : Byte) : (s.setF v).Good :=
  h.of_same (masked_low v) h.1.cyc_aligned h.2 rfl rfl rfl rfl
theorem State.Good.setFlags {s : State} (h : s.Good) (z n hh c : Bool) : (s.setFlags z n hh c).Good := h.setF _
theorem State.Good.setAf {s : State} (h : s.Good) (v : Word) : (s.setAf v).Good :=
  h.of_same (masked_low _) h.1.cyc_aligned h.2 rfl rfl rfl rfl
theorem State.Good.setPc {s : State} (h : s.Good) (v : Word) : (s.setPc v).Good :=
  h.of_same h.1.f_low h.1.cyc_aligned h.2 rfl rfl rfl rfl
theorem State.Good.setSp {s : State} (h : s.Good) (v : Word) : (s.setSp v).Good :=
  h.of_same h.1.f_low h.1.cyc_aligned h.2 rfl rfl rfl rfl
theorem State.Good.setIme {s : State} (h : s.Good) (v : Bool) : (s.setIme v).Good :=
  h.of_same h.1.f_low h.1.cyc_aligned h.2 rfl rfl rfl rfl
theorem State.Good.setHalted {s : State} (h : s.Good) (v : Bool) : (s.setHalted v).Good :=
  h.of_same h.1.f_low h.1.cyc_aligned h.2 rfl rfl rfl rfl

theorem State.Good.setIf {s : State} (h : s.Good) (v : Byte) : (s.setIf v).Good :=
  ⟨{ h.1 with
      mem_wf := Memory.write_wf h.1.mem_wf _ _
      mem_range := Memory.write_within h.1.mem_range _ _ (by decide) }, h.2⟩

/-- Time passes in multiples of 4 cycles. -/
theorem State.Good.tick {s : State} (h : s.Good) (n : Nat) (hn : n % 4 = 0) : (tick n s).Good := by
  obtain ⟨h, h0⟩ := h
  obtain ⟨c1, c2, c3, c4, c5, c6, c7⟩ := tick_control n s
  refine ⟨⟨?_, ?_, ?_, tick_wf n s h.mem_wf, tick_range n s h.mem_range, ?_, ?_, ?_, ?_, ?_, ?_, ?_, ?_, ?_, ?_⟩, ?_⟩
  · simpa using h.f_low
  · have := h.cyc_aligned; simp only [tick_cpu]; omega
  · intro _ _ e; simp [h0] at e
  · simpa using h.ram_wf
  · simpa using h.ram_range
  · simpa using h.rom_wf
  · rw [tick_params, c1]; exact h.bank
  · rw [tick_timer]; exact Timer.steps_delay _ _ h.delay
  · rw [tick_timer]; exact Timer.steps_edge _ _ h.edge
  · exact tick_live_masked _ _ h.live_masked
  · rw [c7]; exact h.latched_masked
  · rw [tick_params, c4]; exact h.rtc_mapped
  · rw [tick_params]; exact fun hp => tick_acc _ _ (h.acc hp)
  · simpa using h0

theorem State.Good.routeRead {s : State} (h : s.Good) (a : Word) : (routeRead a s).2.Good :=
  h.of_same (by simpa using h.1.f_low) (by simpa using h.1.cyc_aligned) (by simpa using h.2) (by simp) (by simp) (by simp) (by simp)

theorem Cart.ramOffset_lt (c : Cart) (a : Word) (h : a.toNat < 0xC000) : c.ramOffset a < 0x8000 := by
  have := c.ramBank.isLt
  unfold Cart.ramOffset
  omega

theorem State.Good.routeWrite {s : State} (h : s.Good) (a : Word) (v : Byte) : (routeWrite a v s).Good := by
  obtain ⟨h, h0⟩ := h
  rcases routeWrite_state a v s with e | ⟨k, h1, h2, _, e⟩ | ⟨_, e⟩ | ⟨_, h2, _, e⟩ | ⟨_, _, e⟩ <;> rw [e]
  · exact ⟨h, h0⟩
  · exact ⟨{ h with
      mem_wf := Memory.write_wf h.mem_wf _ _
      mem_range := Memory.write_within h.mem_range _ _ ⟨h1, h2⟩ }, h0⟩
  · obtain ⟨k1, k2, k3, _⟩ := Cart.command_kept s.params.cartKind a v s.cart
    refine ⟨{ h with
      ram_wf := by dsimp only; rw [k1]; exact h.ram_wf
      ram_range := by dsimp only; rw [k1]; exact h.ram_range
      bank := Cart.command_bank _ _ _ _ h.bank
      live_masked := by dsimp only; rw [k2]; exact h.live_masked
      latched_masked := ?_
      rtc_mapped := Cart.command_rtcMapped _ _ _ _ h.rtc_mapped
      acc := by dsimp only; rw [k3]; exact h.acc }, h0⟩
    rcases Cart.command_latched s.params.cartKind a v s.cart with hl | hl <;> dsimp only <;> rw [hl]
    exacts [h.latched_masked, h.live_masked]
  · obtain ⟨k1, _, _, k4, _, k6, _⟩ := Cart.windowWrite_kept a v s.cart
    have hw : (s.cart.windowWrite a v).ram.wf = true ∧ (s.cart.windowWrite a v).ram.within 0 0x8000 = true ∧
        (s.cart.windowWrite a v).rtcLive.masked = true ∧
        (0 < s.params.rtcCyclesPerTick → (s.cart.windowWrite a v).rtcAcc < s.params.rtcCyclesPerTick) := by
      unfold Cart.windowWrite Cart.rtcWrite
      split
      · exact ⟨h.ram_wf, h.ram_range, h.live_masked, h.acc⟩
      · split
        · refine ⟨h.ram_wf, h.ram_range, Rtc.set_masked h.live_masked _ _, fun hp => ?_⟩
          dsimp only
          split
          · exact hp
          · exact h.acc hp
        · exact ⟨Memory.write_wf h.ram_wf _ _,
            Memory.write_within h.ram_range _ _ ⟨Nat.zero_le _, Cart.ramOffset_lt _ _ h2⟩, h.live_masked, h.acc⟩
    exact ⟨{ h with
      ram_wf := hw.1
      ram_range := hw.2.1
      bank := by dsimp only; rw [k1]; exact h.bank
      live_masked := hw.2.2.1
      latched_masked := by dsimp only; rw [k6]; exact h.latched_masked
      rtc_mapped := by dsimp only; rw [k4]; exact h.rtc_mapped
      acc := hw.2.2.2 }, h0⟩
  · exact ⟨{ h with
      delay := Timer.write_delay _ _ _ h.delay
      edge := Timer.write_edge _ _ _ h.edge }, h0⟩

theorem State.Good.memRead {s : State} (h : s.Good) (a : Word) : (memRead a s).2.Good :=
  (h.routeRead a).tick 4 (by decide)
theorem State.Good.memWrite {s : State} (h : s.Good) (a : Word) (v : Byte) : (memWrite a v s).Good :=
  (h.routeWrite a v).tick 4 (by decide)
theorem State.Good.memRead2 {s : State} (h : s.Good) (a : Word) : (memRead2 a s).2.Good := (h.memRead a).memRead (a + 1)
theorem State.Good.memWrite2 {s : State} (h : s.Good) (a v : Word) : (memWrite2 a v s).Good :=
  (h.memWrite a (loByte v)).memWrite (a + 1) (hiByte v)
theorem State.Good.fetch8 {s : State} (h : s.Good) : (fetch8 s).2.Good := (h.memRead s.cpu.pc).setPc _
theorem State.Good.push16 {s : State} (h : s.Good) (v : Word) : (push16 v s).Good := (h.setSp _).memWrite2 _ _
theorem State.Good.pop16 {s : State} (h : s.Good) : (pop16 s).2.Good := (h.memRead2 s.cpu.sp).setSp _

theorem State.Good.fetchRest {s : State} (h : s.Good) (p : Plan) : (fetchRest p s).2.Good := by
  cases p
  exacts [h, h.fetch8, h.fetch8.fetch8, h.fetch8]

theorem State.Good.fetchInstr {s : State} (h : s.Good) : (fetchInstr s).2.Good := by
  rw [fetchInstr_eq]; exact h.fetch8.fetchRest _

theorem State.Good.enterInterrupt {s : State} (h : s.Good) (i : Nat) : (enterInterrupt i s).Good :=
  ((((h.tick 8 (by decide)).setIf _).setIme false).push16 _).setPc _

theorem State.Good.returnFromInterrupt {s : State} (h : s.Good) : (returnFromInterrupt s).Good :=
  ((h.pop16.setPc _).tick 4 (by decide)).setIme true

theorem State.Good.interruptCheck {s : State} (h : s.Good) : (interruptCheck s).Good := by
  rcases interruptCheck_cases s with ⟨i, _, _, _, _, e⟩ | e | e <;> rw [e]
  exacts [(h.setHalted false).enterInterrupt i, h.setHalted false, h]

theorem State.Good.betweenSteps {s : State} (h : s.Good) : (betweenSteps s).Good := by
  have hm : (Machine.betweenSteps s).mem.wf = true ∧ (Machine.betweenSteps s).mem.within 0x8000 0x10000 = true := by
    rcases betweenSteps_mem s with e | e <;> rw [e]
    · exact ⟨h.1.mem_wf, h.1.mem_range⟩
    · exact ⟨Memory.write_wf h.1.mem_wf _ _, Memory.write_within h.1.mem_range _ _ (by decide)⟩
  obtain ⟨h, h0⟩ := h
  refine ⟨⟨?_, ?_, ?_, hm.1, hm.2, ?_, ?_, ?_, ?_, ?_, ?_, ?_, ?_, ?_, ?_⟩, ?_⟩ <;>
    simp only [betweenSteps_cpu, betweenSteps_cart, betweenSteps_timer, betweenSteps_params]
  exacts [h.f_low, h.cyc_aligned, h.fault_pc, h.ram_wf, h.ram_range, h.rom_wf, h.bank, h.delay, h.edge, h.live_masked,
    h.latched_masked, h.rtc_mapped, h.acc, h0]

theorem State.Good.readLoc8 {s : State} (h : s.Good) (x : Loc8) : (readLoc8 x s).2.Good := by
  cases x
  · exact h
  · exact h.memRead _
theorem State.Good.writeLoc8 {s : State} (h : s.Good) (x : Loc8) (v : Byte) : (writeLoc8 x v s).Good := by
  cases x
  · exact h.setReg8 _ _
  · exact h.memWrite _ _
theorem State.Good.writeStackPair {s : State} (h : s.Good) (p : StackPair) (v : Word) : (writeStackPair p v s).Good := by
  cases p
  exacts [h.setPair .bc v, h.setPair .de v, h.setPair .hl v, h.setAf v]
theorem State.Good.afterAddr {s : State} (h : s.Good) (x : AddrReg) : (afterAddr x s).Good := by
  cases x
  exacts [h, h, h.setPair .hl (s.hl + 1), h.setPair .hl (s.hl - 1), h]

end Sys2Proof.Machine
end

