-- ==== Sys2Proof/Laws/Operands.lean ====
section
/-! SUPPORT. The operand forms: what reading and writing a location, a stack pair and an address register leave alone. -/

namespace Sys2Proof.Machine

/-- The cycles of one access of an operand location: 4 for (HL), none for a register (R134). -/
def locCycles (x : Loc8) : Nat :=
  match x with
  | .reg _ => 0
  | .atHL => 4

/-- Reading an operand changes of the CPU the cycle count only. -/
@[simp] theorem readLoc8_cpu (x : Loc8) (s : State) :
    (readLoc8 x s).2.cpu = { s.cpu with cyc := s.cpu.cyc + locCycles x } := by
  cases x
  · rfl
  · exact memRead_cpu _ _
@[simp] theorem readLoc8_params (x : Loc8) (s : State) : (readLoc8 x s).2.params = s.params := by
  cases x
  · rfl
  · exact memRead_params _ _
theorem readLoc8_kept (x : Loc8) (s : State) (h : s.mem.wf = true) : MemoryKept s (readLoc8 x s).2 := by
  cases x
  · exact MemoryKept.refl s
  · exact memRead_kept _ _ h

section
variable (x : Loc8) (v : Byte) (s : State)
@[simp] theorem writeLoc8_f : (writeLoc8 x v s).cpu.f = s.cpu.f := by cases x <;> simp [writeLoc8]
@[simp] theorem writeLoc8_sp : (writeLoc8 x v s).cpu.sp = s.cpu.sp := by cases x <;> simp [writeLoc8]
@[simp] theorem writeLoc8_pc : (writeLoc8 x v s).cpu.pc = s.cpu.pc := by cases x <;> simp [writeLoc8]
@[simp] theorem writeLoc8_ime : (writeLoc8 x v s).cpu.ime = s.cpu.ime := by cases x <;> simp [writeLoc8]
@[simp] theorem writeLoc8_halted : (writeLoc8 x v s).cpu.halted = s.cpu.halted := by cases x <;> simp [writeLoc8]
@[simp] theorem writeLoc8_fault : (writeLoc8 x v s).cpu.fault = s.cpu.fault := by cases x <;> simp [writeLoc8]
@[simp] theorem writeLoc8_cyc : (writeLoc8 x v s).cpu.cyc = s.cpu.cyc + locCycles x := by
  cases x <;> simp [writeLoc8, locCycles]
@[simp] theorem writeLoc8_params : (writeLoc8 x v s).params = s.params := by cases x <;> simp [writeLoc8]
end

section
variable (p : StackPair) (v : Word) (s : State)
@[simp] theorem writeStackPair_sp : (writeStackPair p v s).cpu.sp = s.cpu.sp := by
  cases p <;> rfl
@[simp] theorem writeStackPair_pc : (writeStackPair p v s).cpu.pc = s.cpu.pc := by cases p <;> rfl
@[simp] theorem writeStackPair_ime : (writeStackPair p v s).cpu.ime = s.cpu.ime := by cases p <;> rfl
@[simp] theorem writeStackPair_halted : (writeStackPair p v s).cpu.halted = s.cpu.halted := by cases p <;> rfl
@[simp] theorem writeStackPair_fault : (writeStackPair p v s).cpu.fault = s.cpu.fault := by cases p <;> rfl
@[simp] theorem writeStackPair_cyc : (writeStackPair p v s).cpu.cyc = s.cpu.cyc := by cases p <;> rfl
@[simp] theorem writeStackPair_mem : (writeStackPair p v s).mem = s.mem := by cases p <;> rfl
@[simp] theorem writeStackPair_timer : (writeStackPair p v s).timer = s.timer := by cases p <;> rfl
@[simp] theorem writeStackPair_cart : (writeStackPair p v s).cart = s.cart := by cases p <;> rfl
@[simp] theorem writeStackPair_params : (writeStackPair p v s).params = s.params := by cases p <;> rfl
end

section
variable (x : AddrReg) (s : State)
@[simp] theorem afterAddr_a : (afterAddr x s).cpu.a = s.cpu.a := by cases x <;> rfl
@[simp] theorem afterAddr_f : (afterAddr x s).cpu.f = s.cpu.f := by cases x <;> rfl
@[simp] theorem afterAddr_sp : (afterAddr x s).cpu.sp = s.cpu.sp := by cases x <;> rfl
@[simp] theorem afterAddr_pc : (afterAddr x s).cpu.pc = s.cpu.pc := by cases x <;> rfl
@[simp] theorem afterAddr_ime : (afterAddr x s).cpu.ime = s.cpu.ime := by cases x <;> rfl
@[simp] theorem afterAddr_halted : (afterAddr x s).cpu.halted = s.cpu.halted := by cases x <;> rfl
@[simp] theorem afterAddr_fault : (afterAddr x s).cpu.fault = s.cpu.fault := by cases x <;> rfl
@[simp] theorem afterAddr_cyc : (afterAddr x s).cpu.cyc = s.cpu.cyc := by cases x <;> rfl
@[simp] theorem afterAddr_mem : (afterAddr x s).mem = s.mem := by cases x <;> rfl
@[simp] theorem afterAddr_timer : (afterAddr x s).timer = s.timer := by cases x <;> rfl
@[simp] theorem afterAddr_cart : (afterAddr x s).cart = s.cart := by cases x <;> rfl
@[simp] theorem afterAddr_params : (afterAddr x s).params = s.params := by cases x <;> rfl
end

/-- A condition reads F only (R137). -/
theorem condHolds_congr (cc : Cond) {s t : State} (h : t.cpu.f = s.cpu.f) : condHolds cc t = condHolds cc s := by
  cases cc <;> simp only [condHolds, State.flagZ, State.flagC, h]

end Sys2Proof.Machine
end

