-- ==== Sys2Proof/Laws/PerInstr.lean ====
section
/-! SUPPORT. Facts stated per instruction: the length of an encoding is fixed by its first byte (R130). -/

/-- The encoding is as long as its first byte alone says. -/
def Sys2Proof.Laws.EncodedLength.Statement (i : Sys2Proof.Instr) : Prop :=
  (Sys2Proof.encode i).length = (Sys2Proof.plan ((Sys2Proof.encode i).headD 0)).length

/-- The statement from the bytes of the encoding. -/
theorem Sys2Proof.Laws.encodedLength_of_bytes {i : Sys2Proof.Instr} (b0 : Sys2Proof.Byte) (t : List Sys2Proof.Byte)
    (h : Sys2Proof.encode i = b0 :: t) (hl : t.length + 1 = (Sys2Proof.plan b0).length) :
    Sys2Proof.Laws.EncodedLength.Statement i := by
  unfold Sys2Proof.Laws.EncodedLength.Statement
  rw [h]
  exact hl

theorem Sys2Proof.Laws.EncodedLength.ldAtBCA : Statement .ldAtBCA :=
  Sys2Proof.Laws.encodedLength_of_bytes 0x02 [] rfl rfl
theorem Sys2Proof.Laws.EncodedLength.ldBN (n : Sys2Proof.Byte) : Statement (.ldBN n) :=
  Sys2Proof.Laws.encodedLength_of_bytes 0x06 [n] rfl rfl
theorem Sys2Proof.Laws.EncodedLength.ldAAtBC : Statement .ldAAtBC :=
  Sys2Proof.Laws.encodedLength_of_bytes 0x0A [] rfl rfl
theorem Sys2Proof.Laws.EncodedLength.ldCN (n : Sys2Proof.Byte) : Statement (.ldCN n) :=
  Sys2Proof.Laws.encodedLength_of_bytes 0x0E [n] rfl rfl
theorem Sys2Proof.Laws.EncodedLength.ldAtDEA : Statement .ldAtDEA :=
  Sys2Proof.Laws.encodedLength_of_bytes 0x12 [] rfl rfl
theorem Sys2Proof.Laws.EncodedLength.ldDN (n : Sys2Proof.Byte) : Statement (.ldDN n) :=
  Sys2Proof.Laws.encodedLength_of_bytes 0x16 [n] rfl rfl
theorem Sys2Proof.Laws.EncodedLength.ldAAtDE : Statement .ldAAtDE :=
  Sys2Proof.Laws.encodedLength_of_bytes 0x1A [] rfl rfl
theorem Sys2Proof.Laws.EncodedLength.ldEN (n : Sys2Proof.Byte) : Statement (.ldEN n) :=
  Sys2Proof.Laws.encodedLength_of_bytes 0x1E [n] rfl rfl
theorem Sys2Proof.Laws.EncodedLength.ldAtHLIncA : Statement .ldAtHLIncA :=
  Sys2Proof.Laws.encodedLength_of_bytes 0x22 [] rfl rfl
theorem Sys2Proof.Laws.EncodedLength.ldHN (n : Sys2Proof.Byte) : Statement (.ldHN n) :=
  Sys2Proof.Laws.encodedLength_of_bytes 0x26 [n] rfl rfl
theorem Sys2Proof.Laws.EncodedLength.ldAAtHLInc : Statement .ldAAtHLInc :=
  Sys2Proof.Laws.encodedLength_of_bytes 0x2A [] rfl rfl
theorem Sys2Proof.Laws.EncodedLength.ldLN (n : Sys2Proof.Byte) : Statement (.ldLN n) :=
  Sys2Proof.Laws.encodedLength_of_bytes 0x2E [n] rfl rfl
theorem Sys2Proof.Laws.EncodedLength.ldAtHLDecA : Statement .ldAtHLDecA :=
  Sys2Proof.Laws.encodedLength_of_bytes 0x32 [] rfl rfl
theorem Sys2Proof.Laws.EncodedLength.ldAtHLN (n : Sys2Proof.Byte) : Statement (.ldAtHLN n) :=
  Sys2Proof.Laws.encodedLength_of_bytes 0x36 [n] rfl rfl
theorem Sys2Proof.Laws.EncodedLength.ldAAtHLDec : Statement .ldAAtHLDec :=
  Sys2Proof.Laws.encodedLength_of_bytes 0x3A [] rfl rfl
theorem Sys2Proof.Laws.EncodedLength.ldAN (n : Sys2Proof.Byte) : Statement (.ldAN n) :=
  Sys2Proof.Laws.encodedLength_of_bytes 0x3E [n] rfl rfl
theorem Sys2Proof.Laws.EncodedLength.ldBB : Statement .ldBB :=
  Sys2Proof.Laws.encodedLength_of_bytes 0x40 [] rfl rfl
theorem Sys2Proof.Laws.EncodedLength.ldBC : Statement .ldBC :=
  Sys2Proof.Laws.encodedLength_of_bytes 0x41 [] rfl rfl
theorem Sys2Proof.Laws.EncodedLength.ldBD : Statement .ldBD :=
  Sys2Proof.Laws.encodedLength_of_bytes 0x42 [] rfl rfl
theorem Sys2Proof.Laws.EncodedLength.ldBE : Statement .ldBE :=
  Sys2Proof.Laws.encodedLength_of_bytes 0x43 [] rfl rfl
theorem Sys2Proof.Laws.EncodedLength.ldBH : Statement .ldBH :=
  Sys2Proof.Laws.encodedLength_of_bytes 0x44 [] rfl rfl
theorem Sys2Proof.Laws.EncodedLength.ldBL : Statement .ldBL :=
  Sys2Proof.Laws.encodedLength_of_bytes 0x45 [] rfl rfl
theorem Sys2Proof.Laws.EncodedLength.ldBAtHL : Statement .ldBAtHL :=
  Sys2Proof.Laws.encodedLength_of_bytes 0x46 [] rfl rfl
theorem Sys2Proof.Laws.EncodedLength.ldBA : Statement .ldBA :=
  Sys2Proof.Laws.encodedLength_of_bytes 0x47 [] rfl rfl
theorem Sys2Proof.Laws.EncodedLength.ldCB : Statement .ldCB :=
  Sys2Proof.Laws.encodedLength_of_bytes 0x48 [] rfl rfl
theorem Sys2Proof.Laws.EncodedLength.ldCC : Statement .ldCC :=
  Sys2Proof.Laws.encodedLength_of_bytes 0x49 [] rfl rfl
theorem Sys2Proof.Laws.EncodedLength.ldCD : Statement .ldCD :=
  Sys2Proof.Laws.encodedLength_of_bytes 0x4A [] rfl rfl
theorem Sys2Proof.Laws.EncodedLength.ldCE : Statement .ldCE :=
  Sys2Proof.Laws.encodedLength_of_bytes 0x4B [] rfl rfl
theorem Sys2Proof.Laws.EncodedLength.ldCH : Statement .ldCH :=
  Sys2Proof.Laws.encodedLength_of_bytes 0x4C [] rfl rfl
theorem Sys2Proof.Laws.EncodedLength.ldCL : Statement .ldCL :=
  Sys2Proof.Laws.encodedLength_of_bytes 0x4D [] rfl rfl
theorem Sys2Proof.Laws.EncodedLength.ldCAtHL : Statement .ldCAtHL :=
  Sys2Proof.Laws.encodedLength_of_bytes 0x4E [] rfl rfl
theorem Sys2Proof.Laws.EncodedLength.ldCA : Statement .ldCA :=
  Sys2Proof.Laws.encodedLength_of_bytes 0x4F [] rfl rfl
theorem Sys2Proof.Laws.EncodedLength.ldDB : Statement .ldDB :=
  Sys2Proof.Laws.encodedLength_of_bytes 0x50 [] rfl rfl
theorem Sys2Proof.Laws.EncodedLength.ldDC : Statement .ldDC :=
  Sys2Proof.Laws.encodedLength_of_bytes 0x51 [] rfl rfl
theorem Sys2Proof.Laws.EncodedLength.ldDD : Statement .ldDD :=
  Sys2Proof.Laws.encodedLength_of_bytes 0x52 [] rfl rfl
theorem Sys2Proof.Laws.EncodedLength.ldDE : Statement .ldDE :=
  Sys2Proof.Laws.encodedLength_of_bytes 0x53 [] rfl rfl
theorem Sys2Proof.Laws.EncodedLength.ldDH : Statement .ldDH :=
  Sys2Proof.Laws.encodedLength_of_bytes 0x54 [] rfl rfl
theorem Sys2Proof.Laws.EncodedLength.ldDL : Statement .ldDL :=
  Sys2Proof.Laws.encodedLength_of_bytes 0x55 [] rfl rfl
theorem Sys2Proof.Laws.EncodedLength.ldDAtHL : Statement .ldDAtHL :=
  Sys2Proof.Laws.encodedLength_of_bytes 0x56 [] rfl rfl
theorem Sys2Proof.Laws.EncodedLength.ldDA : Statement .ldDA :=
  Sys2Proof.Laws.encodedLength_of_bytes 0x57 [] rfl rfl
theorem Sys2Proof.Laws.EncodedLength.ldEB : Statement .ldEB :=
  Sys2Proof.Laws.encodedLength_of_bytes 0x58 [] rfl rfl
theorem Sys2Proof.Laws.EncodedLength.ldEC : Statement .ldEC :=
  Sys2Proof.Laws.encodedLength_of_bytes 0x59 [] rfl rfl
theorem Sys2Proof.Laws.EncodedLength.ldED : Statement .ldED :=
  Sys2Proof.Laws.encodedLength_of_bytes 0x5A [] rfl rfl
theorem Sys2Proof.Laws.EncodedLength.ldEE : Statement .ldEE :=
  Sys2Proof.Laws.encodedLength_of_bytes 0x5B [] rfl rfl
theorem Sys2Proof.Laws.EncodedLength.ldEH : Statement .ldEH :=
  Sys2Proof.Laws.encodedLength_of_bytes 0x5C [] rfl rfl
theorem Sys2Proof.Laws.EncodedLength.ldEL : Statement .ldEL :=
  Sys2Proof.Laws.encodedLength_of_bytes 0x5D [] rfl rfl
theorem Sys2Proof.Laws.EncodedLength.ldEAtHL : Statement .ldEAtHL :=
  Sys2Proof.Laws.encodedLength_of_bytes 0x5E [] rfl rfl
theorem Sys2Proof.Laws.EncodedLength.ldEA : Statement .ldEA :=
  Sys2Proof.Laws.encodedLength_of_bytes 0x5F [] rfl rfl
theorem Sys2Proof.Laws.EncodedLength.ldHB : Statement .ldHB :=
  Sys2Proof.Laws.encodedLength_of_bytes 0x60 [] rfl rfl
theorem Sys2Proof.Laws.EncodedLength.ldHC : Statement .ldHC :=
  Sys2Proof.Laws.encodedLength_of_bytes 0x61 [] rfl rfl
theorem Sys2Proof.Laws.EncodedLength.ldHD : Statement .ldHD :=
  Sys2Proof.Laws.encodedLength_of_bytes 0x62 [] rfl rfl
theorem Sys2Proof.Laws.EncodedLength.ldHE : Statement .ldHE :=
  Sys2Proof.Laws.encodedLength_of_bytes 0x63 [] rfl rfl
theorem Sys2Proof.Laws.EncodedLength.ldHH : Statement .ldHH :=
  Sys2Proof.Laws.encodedLength_of_bytes 0x64 [] rfl rfl
theorem Sys2Proof.Laws.EncodedLength.ldHL : Statement .ldHL :=
  Sys2Proof.Laws.encodedLength_of_bytes 0x65 [] rfl rfl
theorem Sys2Proof.Laws.EncodedLength.ldHAtHL : Statement .ldHAtHL :=
  Sys2Proof.Laws.encodedLength_of_bytes 0x66 [] rfl rfl
theorem Sys2Proof.Laws.EncodedLength.ldHA : Statement .ldHA :=
  Sys2Proof.Laws.encodedLength_of_bytes 0x67 [] rfl rfl
theorem Sys2Proof.Laws.EncodedLength.ldLB : Statement .ldLB :=
  Sys2Proof.Laws.encodedLength_of_bytes 0x68 [] rfl rfl
theorem Sys2Proof.Laws.EncodedLength.ldLC : Statement .ldLC :=
  Sys2Proof.Laws.encodedLength_of_bytes 0x69 [] rfl rfl
theorem Sys2Proof.Laws.EncodedLength.ldLD : Statement .ldLD :=
  Sys2Proof.Laws.encodedLength_of_bytes 0x6A [] rfl rfl
theorem Sys2Proof.Laws.EncodedLength.ldLE : Statement .ldLE :=
  Sys2Proof.Laws.encodedLength_of_bytes 0x6B [] rfl rfl
theorem Sys2Proof.Laws.EncodedLength.ldLH : Statement .ldLH :=
  Sys2Proof.Laws.encodedLength_of_bytes 0x6C [] rfl rfl
theorem Sys2Proof.Laws.EncodedLength.ldLL : Statement .ldLL :=
  Sys2Proof.Laws.encodedLength_of_bytes 0x6D [] rfl rfl
theorem Sys2Proof.Laws.EncodedLength.ldLAtHL : Statement .ldLAtHL :=
  Sys2Proof.Laws.encodedLength_of_bytes 0x6E [] rfl rfl
theorem Sys2Proof.Laws.EncodedLength.ldLA : Statement .ldLA :=
  Sys2Proof.Laws.encodedLength_of_bytes 0x6F [] rfl rfl
theorem Sys2Proof.Laws.EncodedLength.ldAtHLB : Statement .ldAtHLB :=
  Sys2Proof.Laws.encodedLength_of_bytes 0x70 [] rfl rfl
theorem Sys2Proof.Laws.EncodedLength.ldAtHLC : Statement .ldAtHLC :=
  Sys2Proof.Laws.encodedLength_of_bytes 0x71 [] rfl rfl
theorem Sys2Proof.Laws.EncodedLength.ldAtHLD : Statement .ldAtHLD :=
  Sys2Proof.Laws.encodedLength_of_bytes 0x72 [] rfl rfl
theorem Sys2Proof.Laws.EncodedLength.ldAtHLE : Statement .ldAtHLE :=
  Sys2Proof.Laws.encodedLength_of_bytes 0x73 [] rfl rfl
theorem Sys2Proof.Laws.EncodedLength.ldAtHLH : Statement .ldAtHLH :=
  Sys2Proof.Laws.encodedLength_of_bytes 0x74 [] rfl rfl
theorem Sys2Proof.Laws.EncodedLength.ldAtHLL : Statement .ldAtHLL :=
  Sys2Proof.Laws.encodedLength_of_bytes 0x75 [] rfl rfl
theorem Sys2Proof.Laws.EncodedLength.ldAtHLA : Statement .ldAtHLA :=
  Sys2Proof.Laws.encodedLength_of_bytes 0x77 [] rfl rfl
theorem Sys2Proof.Laws.EncodedLength.ldAB : Statement .ldAB :=
  Sys2Proof.Laws.encodedLength_of_bytes 0x78 [] rfl rfl
theorem Sys2Proof.Laws.EncodedLength.ldAC : Statement .ldAC :=
  Sys2Proof.Laws.encodedLength_of_bytes 0x79 [] rfl rfl
theorem Sys2Proof.Laws.EncodedLength.ldAD : Statement .ldAD :=
  Sys2Proof.Laws.encodedLength_of_bytes 0x7A [] rfl rfl
theorem Sys2Proof.Laws.EncodedLength.ldAE : Statement .ldAE :=
  Sys2Proof.Laws.encodedLength_of_bytes 0x7B [] rfl rfl
theorem Sys2Proof.Laws.EncodedLength.ldAH : Statement .ldAH :=
  Sys2Proof.Laws.encodedLength_of_bytes 0x7C [] rfl rfl
theorem Sys2Proof.Laws.EncodedLength.ldAL : Statement .ldAL :=
  Sys2Proof.Laws.encodedLength_of_bytes 0x7D [] rfl rfl
theorem Sys2Proof.Laws.EncodedLength.ldAAtHL : Statement .ldAAtHL :=
  Sys2Proof.Laws.encodedLength_of_bytes 0x7E [] rfl rfl
theorem Sys2Proof.Laws.EncodedLength.ldAA : Statement .ldAA :=
  Sys2Proof.Laws.encodedLength_of_bytes 0x7F [] rfl rfl
theorem Sys2Proof.Laws.EncodedLength.ldhAtNA (n : Sys2Proof.Byte) : Statement (.ldhAtNA n) :=
  Sys2Proof.Laws.encodedLength_of_bytes 0xE0 [n] rfl rfl
theorem Sys2Proof.Laws.EncodedLength.ldAtHighCA : Statement .ldAtHighCA :=
  Sys2Proof.Laws.encodedLength_of_bytes 0xE2 [] rfl rfl
theorem Sys2Proof.Laws.EncodedLength.ldAtNNA (nn : Sys2Proof.Word) : Statement (.ldAtNNA nn) :=
  Sys2Proof.Laws.encodedLength_of_bytes 0xEA [Sys2Proof.loByte nn, Sys2Proof.hiByte nn] rfl rfl
theorem Sys2Proof.Laws.EncodedLength.ldhAAtN (n : Sys2Proof.Byte) : Statement (.ldhAAtN n) :=
  Sys2Proof.Laws.encodedLength_of_bytes 0xF0 [n] rfl rfl
theorem Sys2Proof.Laws.EncodedLength.ldAAtHighC : Statement .ldAAtHighC :=
  Sys2Proof.Laws.encodedLength_of_bytes 0xF2 [] rfl rfl
theorem Sys2Proof.Laws.EncodedLength.ldAAtNN (nn : Sys2Proof.Word) : Statement (.ldAAtNN nn) :=
  Sys2Proof.Laws.encodedLength_of_bytes 0xFA [Sys2Proof.loByte nn, Sys2Proof.hiByte nn] rfl rfl
theorem Sys2Proof.Laws.EncodedLength.ldBCNN (nn : Sys2Proof.Word) : Statement (.ldBCNN nn) :=
  Sys2Proof.Laws.encodedLength_of_bytes 0x01 [Sys2Proof.loByte nn, Sys2Proof.hiByte nn] rfl rfl
theorem Sys2Proof.Laws.EncodedLength.ldAtNNSP (nn : Sys2Proof.Word) : Statement (.ldAtNNSP nn) :=
  Sys2Proof.Laws.encodedLength_of_bytes 0x08 [Sys2Proof.loByte nn, Sys2Proof.hiByte nn] rfl rfl
theorem Sys2Proof.Laws.EncodedLength.ldDENN (nn : Sys2Proof.Word) : Statement (.ldDENN nn) :=
  Sys2Proof.Laws.encodedLength_of_bytes 0x11 [Sys2Proof.loByte nn, Sys2Proof.hiByte nn] rfl rfl
theorem Sys2Proof.Laws.EncodedLength.ldHLNN (nn : Sys2Proof.Word) : Statement (.ldHLNN nn) :=
  Sys2Proof.Laws.encodedLength_of_bytes 0x21 [Sys2Proof.loByte nn, Sys2Proof.hiByte nn] rfl rfl
theorem Sys2Proof.Laws.EncodedLength.ldSPNN (nn : Sys2Proof.Word) : Statement (.ldSPNN nn) :=
  Sys2Proof.Laws.encodedLength_of_bytes 0x31 [Sys2Proof.loByte nn, Sys2Proof.hiByte nn] rfl rfl
theorem Sys2Proof.Laws.EncodedLength.popBC : Statement .popBC :=
  Sys2Proof.Laws.encodedLength_of_bytes 0xC1 [] rfl rfl
theorem Sys2Proof.Laws.EncodedLength.pushBC : Statement .pushBC :=
  Sys2Proof.Laws.encodedLength_of_bytes 0xC5 [] rfl rfl
theorem Sys2Proof.Laws.EncodedLength.popDE : Statement .popDE :=
  Sys2Proof.Laws.encodedLength_of_bytes 0xD1 [] rfl rfl
theorem Sys2Proof.Laws.EncodedLength.pushDE : Statement .pushDE :=
  Sys2Proof.Laws.encodedLength_of_bytes 0xD5 [] rfl rfl
theorem Sys2Proof.Laws.EncodedLength.popHL : Statement .popHL :=
  Sys2Proof.Laws.encodedLength_of_bytes 0xE1 [] rfl rfl
theorem Sys2Proof.Laws.EncodedLength.pushHL : Statement .pushHL :=
  Sys2Proof.Laws.encodedLength_of_bytes 0xE5 [] rfl rfl
theorem Sys2Proof.Laws.EncodedLength.popAF : Statement .popAF :=
  Sys2Proof.Laws.encodedLength_of_bytes 0xF1 [] rfl rfl
theorem Sys2Proof.Laws.EncodedLength.pushAF : Statement .pushAF :=
  Sys2Proof.Laws.encodedLength_of_bytes 0xF5 [] rfl rfl
theorem Sys2Proof.Laws.EncodedLength.ldHLSPPlusE (e : Sys2Proof.Byte) : Statement (.ldHLSPPlusE e) :=
  Sys2Proof.Laws.encodedLength_of_bytes 0xF8 [e] rfl rfl
theorem Sys2Proof.Laws.EncodedLength.ldSPHL : Statement .ldSPHL :=
  Sys2Proof.Laws.encodedLength_of_bytes 0xF9 [] rfl rfl
theorem Sys2Proof.Laws.EncodedLength.incB : Statement .incB :=
  Sys2Proof.Laws.encodedLength_of_bytes 0x04 [] rfl rfl
theorem Sys2Proof.Laws.EncodedLength.decB : Statement .decB :=
  Sys2Proof.Laws.encodedLength_of_bytes 0x05 [] rfl rfl
theorem Sys2Proof.Laws.EncodedLength.incC : Statement .incC :=
  Sys2Proof.Laws.encodedLength_of_bytes 0x0C [] rfl rfl
theorem Sys2Proof.Laws.EncodedLength.decC : Statement .decC :=
  Sys2Proof.Laws.encodedLength_of_bytes 0x0D [] rfl rfl
theorem Sys2Proof.Laws.EncodedLength.incD : Statement .incD :=
  Sys2Proof.Laws.encodedLength_of_bytes 0x14 [] rfl rfl
theorem Sys2Proof.Laws.EncodedLength.decD : Statement .decD :=
  Sys2Proof.Laws.encodedLength_of_bytes 0x15 [] rfl rfl
theorem Sys2Proof.Laws.EncodedLength.incE : Statement .incE :=
  Sys2Proof.Laws.encodedLength_of_bytes 0x1C [] rfl rfl
theorem Sys2Proof.Laws.EncodedLength.decE : Statement .decE :=
  Sys2Proof.Laws.encodedLength_of_bytes 0x1D [] rfl rfl
theorem Sys2Proof.Laws.EncodedLength.incH : Statement .incH :=
  Sys2Proof.Laws.encodedLength_of_bytes 0x24 [] rfl rfl
theorem Sys2Proof.Laws.EncodedLength.decH : Statement .decH :=
  Sys2Proof.Laws.encodedLength_of_bytes 0x25 [] rfl rfl
theorem Sys2Proof.Laws.EncodedLength.daa : Statement .daa :=
  Sys2Proof.Laws.encodedLength_of_bytes 0x27 [] rfl rfl
theorem Sys2Proof.Laws.EncodedLength.incL : Statement .incL :=
  Sys2Proof.Laws.encodedLength_of_bytes 0x2C [] rfl rfl
theorem Sys2Proof.Laws.EncodedLength.decL : Statement .decL :=
  Sys2Proof.Laws.encodedLength_of_bytes 0x2D [] rfl rfl
theorem Sys2Proof.Laws.EncodedLength.cpl : Statement .cpl :=
  Sys2Proof.Laws.encodedLength_of_bytes 0x2F [] rfl rfl
theorem Sys2Proof.Laws.EncodedLength.incAtHL : Statement .incAtHL :=
  Sys2Proof.Laws.encodedLength_of_bytes 0x34 [] rfl rfl
theorem Sys2Proof.Laws.EncodedLength.decAtHL : Statement .decAtHL :=
  Sys2Proof.Laws.encodedLength_of_bytes 0x35 [] rfl rfl
theorem Sys2Proof.Laws.EncodedLength.scf : Statement .scf :=
  Sys2Proof.Laws.encodedLength_of_bytes 0x37 [] rfl rfl
theorem Sys2Proof.Laws.EncodedLength.incA : Statement .incA :=
  Sys2Proof.Laws.encodedLength_of_bytes 0x3C [] rfl rfl
theorem Sys2Proof.Laws.EncodedLength.decA : Statement .decA :=
  Sys2Proof.Laws.encodedLength_of_bytes 0x3D [] rfl rfl
theorem Sys2Proof.Laws.EncodedLength.ccf : Statement .ccf :=
  Sys2Proof.Laws.encodedLength_of_bytes 0x3F [] rfl rfl
theorem Sys2Proof.Laws.EncodedLength.addAB : Statement .addAB :=
  Sys2Proof.Laws.encodedLength_of_bytes 0x80 [] rfl rfl
theorem Sys2Proof.Laws.EncodedLength.addAC : Statement .addAC :=
  Sys2Proof.Laws.encodedLength_of_bytes 0x81 [] rfl rfl
theorem Sys2Proof.Laws.EncodedLength.addAD : Statement .addAD :=
  Sys2Proof.Laws.encodedLength_of_bytes 0x82 [] rfl rfl
theorem Sys2Proof.Laws.EncodedLength.addAE : Statement .addAE :=
  Sys2Proof.Laws.encodedLength_of_bytes 0x83 [] rfl rfl
theorem Sys2Proof.Laws.EncodedLength.addAH : Statement .addAH :=
  Sys2Proof.Laws.encodedLength_of_bytes 0x84 [] rfl rfl
theorem Sys2Proof.Laws.EncodedLength.addAL : Statement .addAL :=
  Sys2Proof.Laws.encodedLength_of_bytes 0x85 [] rfl rfl
theorem Sys2Proof.Laws.EncodedLength.addAAtHL : Statement .addAAtHL :=
  Sys2Proof.Laws.encodedLength_of_bytes 0x86 [] rfl rfl
theorem Sys2Proof.Laws.EncodedLength.addAA : Statement .addAA :=
  Sys2Proof.Laws.encodedLength_of_bytes 0x87 [] rfl rfl
theorem Sys2Proof.Laws.EncodedLength.adcAB : Statement .adcAB :=
  Sys2Proof.Laws.encodedLength_of_bytes 0x88 [] rfl rfl
theorem Sys2Proof.Laws.EncodedLength.adcAC : Statement .adcAC :=
  Sys2Proof.Laws.encodedLength_of_bytes 0x89 [] rfl rfl
theorem Sys2Proof.Laws.EncodedLength.adcAD : Statement .adcAD :=
  Sys2Proof.Laws.encodedLength_of_bytes 0x8A [] rfl rfl
theorem Sys2Proof.Laws.EncodedLength.adcAE : Statement .adcAE :=
  Sys2Proof.Laws.encodedLength_of_bytes 0x8B [] rfl rfl
theorem Sys2Proof.Laws.EncodedLength.adcAH : Statement .adcAH :=
  Sys2Proof.Laws.encodedLength_of_bytes 0x8C [] rfl rfl
theorem Sys2Proof.Laws.EncodedLength.adcAL : Statement .adcAL :=
  Sys2Proof.Laws.encodedLength_of_bytes 0x8D [] rfl rfl
theorem Sys2Proof.Laws.EncodedLength.adcAAtHL : Statement .adcAAtHL :=
  Sys2Proof.Laws.encodedLength_of_bytes 0x8E [] rfl rfl
theorem Sys2Proof.Laws.EncodedLength.adcAA : Statement .adcAA :=
  Sys2Proof.Laws.encodedLength_of_bytes 0x8F [] rfl rfl
theorem Sys2Proof.Laws.EncodedLength.subB : Statement .subB :=
  Sys2Proof.Laws.encodedLength_of_bytes 0x90 [] rfl rfl
theorem Sys2Proof.Laws.EncodedLength.subC : Statement .subC :=
  Sys2Proof.Laws.encodedLength_of_bytes 0x91 [] rfl rfl
theorem Sys2Proof.Laws.EncodedLength.subD : Statement .subD :=
  Sys2Proof.Laws.encodedLength_of_bytes 0x92 [] rfl rfl
theorem Sys2Proof.Laws.EncodedLength.subE : Statement .subE :=
  Sys2Proof.Laws.encodedLength_of_bytes 0x93 [] rfl rfl
theorem Sys2Proof.Laws.EncodedLength.subH : Statement .subH :=
  Sys2Proof.Laws.encodedLength_of_bytes 0x94 [] rfl rfl
theorem Sys2Proof.Laws.EncodedLength.subL : Statement .subL :=
  Sys2Proof.Laws.encodedLength_of_bytes 0x95 [] rfl rfl
theorem Sys2Proof.Laws.EncodedLength.subAtHL : Statement .subAtHL :=
  Sys2Proof.Laws.encodedLength_of_bytes 0x96 [] rfl rfl
theorem Sys2Proof.Laws.EncodedLength.subA : Statement .subA :=
  Sys2Proof.Laws.encodedLength_of_bytes 0x97 [] rfl rfl
theorem Sys2Proof.Laws.EncodedLength.sbcAB : Statement .sbcAB :=
  Sys2Proof.Laws.encodedLength_of_bytes 0x98 [] rfl rfl
theorem Sys2Proof.Laws.EncodedLength.sbcAC : Statement .sbcAC :=
  Sys2Proof.Laws.encodedLength_of_bytes 0x99 [] rfl rfl
theorem Sys2Proof.Laws.EncodedLength.sbcAD : Statement .sbcAD :=
  Sys2Proof.Laws.encodedLength_of_bytes 0x9A [] rfl rfl
theorem Sys2Proof.Laws.EncodedLength.sbcAE : Statement .sbcAE :=
  Sys2Proof.Laws.encodedLength_of_bytes 0x9B [] rfl rfl
theorem Sys2Proof.Laws.EncodedLength.sbcAH : Statement .sbcAH :=
  Sys2Proof.Laws.encodedLength_of_bytes 0x9C [] rfl rfl
theorem Sys2Proof.Laws.EncodedLength.sbcAL : Statement .sbcAL :=
  Sys2Proof.Laws.encodedLength_of_bytes 0x9D [] rfl rfl
theorem Sys2Proof.Laws.EncodedLength.sbcAAtHL : Statement .sbcAAtHL :=
  Sys2Proof.Laws.encodedLength_of_bytes 0x9E [] rfl rfl
theorem Sys2Proof.Laws.EncodedLength.sbcAA : Statement .sbcAA :=
  Sys2Proof.Laws.encodedLength_of_bytes 0x9F [] rfl rfl
theorem Sys2Proof.Laws.EncodedLength.andB : Statement .andB :=
  Sys2Proof.Laws.encodedLength_of_bytes 0xA0 [] rfl rfl
theorem Sys2Proof.Laws.EncodedLength.andC : Statement .andC :=
  Sys2Proof.Laws.encodedLength_of_bytes 0xA1 [] rfl rfl
theorem Sys2Proof.Laws.EncodedLength.andD : Statement .andD :=
  Sys2Proof.Laws.encodedLength_of_bytes 0xA2 [] rfl rfl
theorem Sys2Proof.Laws.EncodedLength.andE : Statement .andE :=
  Sys2Proof.Laws.encodedLength_of_bytes 0xA3 [] rfl rfl
theorem Sys2Proof.Laws.EncodedLength.andH : Statement .andH :=
  Sys2Proof.Laws.encodedLength_of_bytes 0xA4 [] rfl rfl
theorem Sys2Proof.Laws.EncodedLength.andL : Statement .andL :=
  Sys2Proof.Laws.encodedLength_of_bytes 0xA5 [] rfl rfl
theorem Sys2Proof.Laws.EncodedLength.andAtHL : Statement .andAtHL :=
  Sys2Proof.Laws.encodedLength_of_bytes 0xA6 [] rfl rfl
theorem Sys2Proof.Laws.EncodedLength.andA : Statement .andA :=
  Sys2Proof.Laws.encodedLength_of_bytes 0xA7 [] rfl rfl
theorem Sys2Proof.Laws.EncodedLength.xorB : Statement .xorB :=
  Sys2Proof.Laws.encodedLength_of_bytes 0xA8 [] rfl rfl
theorem Sys2Proof.Laws.EncodedLength.xorC : Statement .xorC :=
  Sys2Proof.Laws.encodedLength_of_bytes 0xA9 [] rfl rfl
theorem Sys2Proof.Laws.EncodedLength.xorD : Statement .xorD :=
  Sys2Proof.Laws.encodedLength_of_bytes 0xAA [] rfl rfl
theorem Sys2Proof.Laws.EncodedLength.xorE : Statement .xorE :=
  Sys2Proof.Laws.encodedLength_of_bytes 0xAB [] rfl rfl
theorem Sys2Proof.Laws.EncodedLength.xorH : Statement .xorH :=
  Sys2Proof.Laws.encodedLength_of_bytes 0xAC [] rfl rfl
theorem Sys2Proof.Laws.EncodedLength.xorL : Statement .xorL :=
  Sys2Proof.Laws.encodedLength_of_bytes 0xAD [] rfl rfl
theorem Sys2Proof.Laws.EncodedLength.xorAtHL : Statement .xorAtHL :=
  Sys2Proof.Laws.encodedLength_of_bytes 0xAE [] rfl rfl
theorem Sys2Proof.Laws.EncodedLength.xorA : Statement .xorA :=
  Sys2Proof.Laws.encodedLength_of_bytes 0xAF [] rfl rfl
theorem Sys2Proof.Laws.EncodedLength.orB : Statement .orB :=
  Sys2Proof.Laws.encodedLength_of_bytes 0xB0 [] rfl rfl
theorem Sys2Proof.Laws.EncodedLength.orC : Statement .orC :=
  Sys2Proof.Laws.encodedLength_of_bytes 0xB1 [] rfl rfl
theorem Sys2Proof.Laws.EncodedLength.orD : Statement .orD :=
  Sys2Proof.Laws.encodedLength_of_bytes 0xB2 [] rfl rfl
theorem Sys2Proof.Laws.EncodedLength.orE : Statement .orE :=
  Sys2Proof.Laws.encodedLength_of_bytes 0xB3 [] rfl rfl
theorem Sys2Proof.Laws.EncodedLength.orH : Statement .orH :=
  Sys2Proof.Laws.encodedLength_of_bytes 0xB4 [] rfl rfl
theorem Sys2Proof.Laws.EncodedLength.orL : Statement .orL :=
  Sys2Proof.Laws.encodedLength_of_bytes 0xB5 [] rfl rfl
theorem Sys2Proof.Laws.EncodedLength.orAtHL : Statement .orAtHL :=
  Sys2Proof.Laws.encodedLength_of_bytes 0xB6 [] rfl rfl
theorem Sys2Proof.Laws.EncodedLength.orA : Statement .orA :=
  Sys2Proof.Laws.encodedLength_of_bytes 0xB7 [] rfl rfl
theorem Sys2Proof.Laws.EncodedLength.cpB : Statement .cpB :=
  Sys2Proof.Laws.encodedLength_of_bytes 0xB8 [] rfl rfl
theorem Sys2Proof.Laws.EncodedLength.cpC : Statement .cpC :=
  Sys2Proof.Laws.encodedLength_of_bytes 0xB9 [] rfl rfl
theorem Sys2Proof.Laws.EncodedLength.cpD : Statement .cpD :=
  Sys2Proof.Laws.encodedLength_of_bytes 0xBA [] rfl rfl
theorem Sys2Proof.Laws.EncodedLength.cpE : Statement .cpE :=
  Sys2Proof.Laws.encodedLength_of_bytes 0xBB [] rfl rfl
theorem Sys2Proof.Laws.EncodedLength.cpH : Statement .cpH :=
  Sys2Proof.Laws.encodedLength_of_bytes 0xBC [] rfl rfl
theorem Sys2Proof.Laws.EncodedLength.cpL : Statement .cpL :=
  Sys2Proof.Laws.encodedLength_of_bytes 0xBD [] rfl rfl
theorem Sys2Proof.Laws.EncodedLength.cpAtHL : Statement .cpAtHL :=
  Sys2Proof.Laws.encodedLength_of_bytes 0xBE [] rfl rfl
theorem Sys2Proof.Laws.EncodedLength.cpA : Statement .cpA :=
  Sys2Proof.Laws.encodedLength_of_bytes 0xBF [] rfl rfl
theorem Sys2Proof.Laws.EncodedLength.addAN (n : Sys2Proof.Byte) : Statement (.addAN n) :=
  Sys2Proof.Laws.encodedLength_of_bytes 0xC6 [n] rfl rfl
theorem Sys2Proof.Laws.EncodedLength.adcAN (n : Sys2Proof.Byte) : Statement (.adcAN n) :=
  Sys2Proof.Laws.encodedLength_of_bytes 0xCE [n] rfl rfl
theorem Sys2Proof.Laws.EncodedLength.subN (n : Sys2Proof.Byte) : Statement (.subN n) :=
  Sys2Proof.Laws.encodedLength_of_bytes 0xD6 [n] rfl rfl
theorem Sys2Proof.Laws.EncodedLength.sbcAN (n : Sys2Proof.Byte) : Statement (.sbcAN n) :=
  Sys2Proof.Laws.encodedLength_of_bytes 0xDE [n] rfl rfl
theorem Sys2Proof.Laws.EncodedLength.andN (n : Sys2Proof.Byte) : Statement (.andN n) :=
  Sys2Proof.Laws.encodedLength_of_bytes 0xE6 [n] rfl rfl
theorem Sys2Proof.Laws.EncodedLength.xorN (n : Sys2Proof.Byte) : Statement (.xorN n) :=
  Sys2Proof.Laws.encodedLength_of_bytes 0xEE [n] rfl rfl
theorem Sys2Proof.Laws.EncodedLength.orN (n : Sys2Proof.Byte) : Statement (.orN n) :=
  Sys2Proof.Laws.encodedLength_of_bytes 0xF6 [n] rfl rfl
theorem Sys2Proof.Laws.EncodedLength.cpN (n : Sys2Proof.Byte) : Statement (.cpN n) :=
  Sys2Proof.Laws.encodedLength_of_bytes 0xFE [n] rfl rfl
theorem Sys2Proof.Laws.EncodedLength.incBC : Statement .incBC :=
  Sys2Proof.Laws.encodedLength_of_bytes 0x03 [] rfl rfl
theorem Sys2Proof.Laws.EncodedLength.addHLBC : Statement .addHLBC :=
  Sys2Proof.Laws.encodedLength_of_bytes 0x09 [] rfl rfl
theorem Sys2Proof.Laws.EncodedLength.decBC : Statement .decBC :=
  Sys2Proof.Laws.encodedLength_of_bytes 0x0B [] rfl rfl
theorem Sys2Proof.Laws.EncodedLength.incDE : Statement .incDE :=
  Sys2Proof.Laws.encodedLength_of_bytes 0x13 [] rfl rfl
theorem Sys2Proof.Laws.EncodedLength.addHLDE : Statement .addHLDE :=
  Sys2Proof.Laws.encodedLength_of_bytes 0x19 [] rfl rfl
theorem Sys2Proof.Laws.EncodedLength.decDE : Statement .decDE :=
  Sys2Proof.Laws.encodedLength_of_bytes 0x1B [] rfl rfl
theorem Sys2Proof.Laws.EncodedLength.incHL : Statement .incHL :=
  Sys2Proof.Laws.encodedLength_of_bytes 0x23 [] rfl rfl
theorem Sys2Proof.Laws.EncodedLength.addHLHL : Statement .addHLHL :=
  Sys2Proof.Laws.encodedLength_of_bytes 0x29 [] rfl rfl
theorem Sys2Proof.Laws.EncodedLength.decHL : Statement .decHL :=
  Sys2Proof.Laws.encodedLength_of_bytes 0x2B [] rfl rfl
theorem Sys2Proof.Laws.EncodedLength.incSP : Statement .incSP :=
  Sys2Proof.Laws.encodedLength_of_bytes 0x33 [] rfl rfl
theorem Sys2Proof.Laws.EncodedLength.addHLSP : Statement .addHLSP :=
  Sys2Proof.Laws.encodedLength_of_bytes 0x39 [] rfl rfl
theorem Sys2Proof.Laws.EncodedLength.decSP : Statement .decSP :=
  Sys2Proof.Laws.encodedLength_of_bytes 0x3B [] rfl rfl
theorem Sys2Proof.Laws.EncodedLength.addSPE (e : Sys2Proof.Byte) : Statement (.addSPE e) :=
  Sys2Proof.Laws.encodedLength_of_bytes 0xE8 [e] rfl rfl
theorem Sys2Proof.Laws.EncodedLength.rlca : Statement .rlca :=
  Sys2Proof.Laws.encodedLength_of_bytes 0x07 [] rfl rfl
theorem Sys2Proof.Laws.EncodedLength.rrca : Statement .rrca :=
  Sys2Proof.Laws.encodedLength_of_bytes 0x0F [] rfl rfl
theorem Sys2Proof.Laws.EncodedLength.rla : Statement .rla :=
  Sys2Proof.Laws.encodedLength_of_bytes 0x17 [] rfl rfl
theorem Sys2Proof.Laws.EncodedLength.rra : Statement .rra :=
  Sys2Proof.Laws.encodedLength_of_bytes 0x1F [] rfl rfl
theorem Sys2Proof.Laws.EncodedLength.rlcB : Statement .rlcB :=
  Sys2Proof.Laws.encodedLength_of_bytes 0xCB [0x00] rfl rfl
theorem Sys2Proof.Laws.EncodedLength.rlcC : Statement .rlcC :=
  Sys2Proof.Laws.encodedLength_of_bytes 0xCB [0x01] rfl rfl
theorem Sys2Proof.Laws.EncodedLength.rlcD : Statement .rlcD :=
  Sys2Proof.Laws.encodedLength_of_bytes 0xCB [0x02] rfl rfl
theorem Sys2Proof.Laws.EncodedLength.rlcE : Statement .rlcE :=
  Sys2Proof.Laws.encodedLength_of_bytes 0xCB [0x03] rfl rfl
theorem Sys2Proof.Laws.EncodedLength.rlcH : Statement .rlcH :=
  Sys2Proof.Laws.encodedLength_of_bytes 0xCB [0x04] rfl rfl
theorem Sys2Proof.Laws.EncodedLength.rlcL : Statement .rlcL :=
  Sys2Proof.Laws.encodedLength_of_bytes 0xCB [0x05] rfl rfl
theorem Sys2Proof.Laws.EncodedLength.rlcAtHL : Statement .rlcAtHL :=
  Sys2Proof.Laws.encodedLength_of_bytes 0xCB [0x06] rfl rfl
theorem Sys2Proof.Laws.EncodedLength.rlcA : Statement .rlcA :=
  Sys2Proof.Laws.encodedLength_of_bytes 0xCB [0x07] rfl rfl
theorem Sys2Proof.Laws.EncodedLength.rrcB : Statement .rrcB :=
  Sys2Proof.Laws.encodedLength_of_bytes 0xCB [0x08] rfl rfl
theorem Sys2Proof.Laws.EncodedLength.rrcC : Statement .rrcC :=
  Sys2Proof.Laws.encodedLength_of_bytes 0xCB [0x09] rfl rfl
theorem Sys2Proof.Laws.EncodedLength.rrcD : Statement .rrcD :=
  Sys2Proof.Laws.encodedLength_of_bytes 0xCB [0x0A] rfl rfl
theorem Sys2Proof.Laws.EncodedLength.rrcE : Statement .rrcE :=
  Sys2Proof.Laws.encodedLength_of_bytes 0xCB [0x0B] rfl rfl
theorem Sys2Proof.Laws.EncodedLength.rrcH : Statement .rrcH :=
  Sys2Proof.Laws.encodedLength_of_bytes 0xCB [0x0C] rfl rfl
theorem Sys2Proof.Laws.EncodedLength.rrcL : Statement .rrcL :=
  Sys2Proof.Laws.encodedLength_of_bytes 0xCB [0x0D] rfl rfl
theorem Sys2Proof.Laws.EncodedLength.rrcAtHL : Statement .rrcAtHL :=
  Sys2Proof.Laws.encodedLength_of_bytes 0xCB [0x0E] rfl rfl
theorem Sys2Proof.Laws.EncodedLength.rrcA : Statement .rrcA :=
  Sys2Proof.Laws.encodedLength_of_bytes 0xCB [0x0F] rfl rfl
theorem Sys2Proof.Laws.EncodedLength.rlB : Statement .rlB :=
  Sys2Proof.Laws.encodedLength_of_bytes 0xCB [0x10] rfl rfl
theorem Sys2Proof.Laws.EncodedLength.rlC : Statement .rlC :=
  Sys2Proof.Laws.encodedLength_of_bytes 0xCB [0x11] rfl rfl
theorem Sys2Proof.Laws.EncodedLength.rlD : Statement .rlD :=
  Sys2Proof.Laws.encodedLength_of_bytes 0xCB [0x12] rfl rfl
theorem Sys2Proof.Laws.EncodedLength.rlE : Statement .rlE :=
  Sys2Proof.Laws.encodedLength_of_bytes 0xCB [0x13] rfl rfl
theorem Sys2Proof.Laws.EncodedLength.rlH : Statement .rlH :=
  Sys2Proof.Laws.encodedLength_of_bytes 0xCB [0x14] rfl rfl
theorem Sys2Proof.Laws.EncodedLength.rlL : Statement .rlL :=
  Sys2Proof.Laws.encodedLength_of_bytes 0xCB [0x15] rfl rfl
theorem Sys2Proof.Laws.EncodedLength.rlAtHL : Statement .rlAtHL :=
  Sys2Proof.Laws.encodedLength_of_bytes 0xCB [0x16] rfl rfl
theorem Sys2Proof.Laws.EncodedLength.rlA : Statement .rlA :=
  Sys2Proof.Laws.encodedLength_of_bytes 0xCB [0x17] rfl rfl
theorem Sys2Proof.Laws.EncodedLength.rrB : Statement .rrB :=
  Sys2Proof.Laws.encodedLength_of_bytes 0xCB [0x18] rfl rfl
theorem Sys2Proof.Laws.EncodedLength.rrC : Statement .rrC :=
  Sys2Proof.Laws.encodedLength_of_bytes 0xCB [0x19] rfl rfl
theorem Sys2Proof.Laws.EncodedLength.rrD : Statement .rrD :=
  Sys2Proof.Laws.encodedLength_of_bytes 0xCB [0x1A] rfl rfl
theorem Sys2Proof.Laws.EncodedLength.rrE : Statement .rrE :=
  Sys2Proof.Laws.encodedLength_of_bytes 0xCB [0x1B] rfl rfl
theorem Sys2Proof.Laws.EncodedLength.rrH : Statement .rrH :=
  Sys2Proof.Laws.encodedLength_of_bytes 0xCB [0x1C] rfl rfl
theorem Sys2Proof.Laws.EncodedLength.rrL : Statement .rrL :=
  Sys2Proof.Laws.encodedLength_of_bytes 0xCB [0x1D] rfl rfl
theorem Sys2Proof.Laws.EncodedLength.rrAtHL : Statement .rrAtHL :=
  Sys2Proof.Laws.encodedLength_of_bytes 0xCB [0x1E] rfl rfl
theorem Sys2Proof.Laws.EncodedLength.rrA : Statement .rrA :=
  Sys2Proof.Laws.encodedLength_of_bytes 0xCB [0x1F] rfl rfl
theorem Sys2Proof.Laws.EncodedLength.slaB : Statement .slaB :=
  Sys2Proof.Laws.encodedLength_of_bytes 0xCB [0x20] rfl rfl
theorem Sys2Proof.Laws.EncodedLength.slaC : Statement .slaC :=
  Sys2Proof.Laws.encodedLength_of_bytes 0xCB [0x21] rfl rfl
theorem Sys2Proof.Laws.EncodedLength.slaD : Statement .slaD :=
  Sys2Proof.Laws.encodedLength_of_bytes 0xCB [0x22] rfl rfl
theorem Sys2Proof.Laws.EncodedLength.slaE : Statement .slaE :=
  Sys2Proof.Laws.encodedLength_of_bytes 0xCB [0x23] rfl rfl
theorem Sys2Proof.Laws.EncodedLength.slaH : Statement .slaH :=
  Sys2Proof.Laws.encodedLength_of_bytes 0xCB [0x24] rfl rfl
theorem Sys2Proof.Laws.EncodedLength.slaL : Statement .slaL :=
  Sys2Proof.Laws.encodedLength_of_bytes 0xCB [0x25] rfl rfl
theorem Sys2Proof.Laws.EncodedLength.slaAtHL : Statement .slaAtHL :=
  Sys2Proof.Laws.encodedLength_of_bytes 0xCB [0x26] rfl rfl
theorem Sys2Proof.Laws.EncodedLength.slaA : Statement .slaA :=
  Sys2Proof.Laws.encodedLength_of_bytes 0xCB [0x27] rfl rfl
theorem Sys2Proof.Laws.EncodedLength.sraB : Statement .sraB :=
  Sys2Proof.Laws.encodedLength_of_bytes 0xCB [0x28] rfl rfl
theorem Sys2Proof.Laws.EncodedLength.sraC : Statement .sraC :=
  Sys2Proof.Laws.encodedLength_of_bytes 0xCB [0x29] rfl rfl
theorem Sys2Proof.Laws.EncodedLength.sraD : Statement .sraD :=
  Sys2Proof.Laws.encodedLength_of_bytes 0xCB [0x2A] rfl rfl
theorem Sys2Proof.Laws.EncodedLength.sraE : Statement .sraE :=
  Sys2Proof.Laws.encodedLength_of_bytes 0xCB [0x2B] rfl rfl
theorem Sys2Proof.Laws.EncodedLength.sraH : Statement .sraH :=
  Sys2Proof.Laws.encodedLength_of_bytes 0xCB [0x2C] rfl rfl
theorem Sys2Proof.Laws.EncodedLength.sraL : Statement .sraL :=
  Sys2Proof.Laws.encodedLength_of_bytes 0xCB [0x2D] rfl rfl
theorem Sys2Proof.Laws.EncodedLength.sraAtHL : Statement .sraAtHL :=
  Sys2Proof.Laws.encodedLength_of_bytes 0xCB [0x2E] rfl rfl
theorem Sys2Proof.Laws.EncodedLength.sraA : Statement .sraA :=
  Sys2Proof.Laws.encodedLength_of_bytes 0xCB [0x2F] rfl rfl
theorem Sys2Proof.Laws.EncodedLength.swapB : Statement .swapB :=
  Sys2Proof.Laws.encodedLength_of_bytes 0xCB [0x30] rfl rfl
theorem Sys2Proof.Laws.EncodedLength.swapC : Statement .swapC :=
  Sys2Proof.Laws.encodedLength_of_bytes 0xCB [0x31] rfl rfl
theorem Sys2Proof.Laws.EncodedLength.swapD : Statement .swapD :=
  Sys2Proof.Laws.encodedLength_of_bytes 0xCB [0x32] rfl rfl
theorem Sys2Proof.Laws.EncodedLength.swapE : Statement .swapE :=
  Sys2Proof.Laws.encodedLength_of_bytes 0xCB [0x33] rfl rfl
theorem Sys2Proof.Laws.EncodedLength.swapH : Statement .swapH :=
  Sys2Proof.Laws.encodedLength_of_bytes 0xCB [0x34] rfl rfl
theorem Sys2Proof.Laws.EncodedLength.swapL : Statement .swapL :=
  Sys2Proof.Laws.encodedLength_of_bytes 0xCB [0x35] rfl rfl
theorem Sys2Proof.Laws.EncodedLength.swapAtHL : Statement .swapAtHL :=
  Sys2Proof.Laws.encodedLength_of_bytes 0xCB [0x36] rfl rfl
theorem Sys2Proof.Laws.EncodedLength.swapA : Statement .swapA :=
  Sys2Proof.Laws.encodedLength_of_bytes 0xCB [0x37] rfl rfl
theorem Sys2Proof.Laws.EncodedLength.srlB : Statement .srlB :=
  Sys2Proof.Laws.encodedLength_of_bytes 0xCB [0x38] rfl rfl
theorem Sys2Proof.Laws.EncodedLength.srlC : Statement .srlC :=
  Sys2Proof.Laws.encodedLength_of_bytes 0xCB [0x39] rfl rfl
theorem Sys2Proof.Laws.EncodedLength.srlD : Statement .srlD :=
  Sys2Proof.Laws.encodedLength_of_bytes 0xCB [0x3A] rfl rfl
theorem Sys2Proof.Laws.EncodedLength.srlE : Statement .srlE :=
  Sys2Proof.Laws.encodedLength_of_bytes 0xCB [0x3B] rfl rfl
theorem Sys2Proof.Laws.EncodedLength.srlH : Statement .srlH :=
  Sys2Proof.Laws.encodedLength_of_bytes 0xCB [0x3C] rfl rfl
theorem Sys2Proof.Laws.EncodedLength.srlL : Statement .srlL :=
  Sys2Proof.Laws.encodedLength_of_bytes 0xCB [0x3D] rfl rfl
theorem Sys2Proof.Laws.EncodedLength.srlAtHL : Statement .srlAtHL :=
  Sys2Proof.Laws.encodedLength_of_bytes 0xCB [0x3E] rfl rfl
theorem Sys2Proof.Laws.EncodedLength.srlA : Statement .srlA :=
  Sys2Proof.Laws.encodedLength_of_bytes 0xCB [0x3F] rfl rfl
theorem Sys2Proof.Laws.EncodedLength.bit0B : Statement .bit0B :=
  Sys2Proof.Laws.encodedLength_of_bytes 0xCB [0x40] rfl rfl
theorem Sys2Proof.Laws.EncodedLength.bit0C : Statement .bit0C :=
  Sys2Proof.Laws.encodedLength_of_bytes 0xCB [0x41] rfl rfl
theorem Sys2Proof.Laws.EncodedLength.bit0D : Statement .bit0D :=
  Sys2Proof.Laws.encodedLength_of_bytes 0xCB [0x42] rfl rfl
theorem Sys2Proof.Laws.EncodedLength.bit0E : Statement .bit0E :=
  Sys2Proof.Laws.encodedLength_of_bytes 0xCB [0x43] rfl rfl
theorem Sys2Proof.Laws.EncodedLength.bit0H : Statement .bit0H :=
  Sys2Proof.Laws.encodedLength_of_bytes 0xCB [0x44] rfl rfl
theorem Sys2Proof.Laws.EncodedLength.bit0L : Statement .bit0L :=
  Sys2Proof.Laws.encodedLength_of_bytes 0xCB [0x45] rfl rfl
theorem Sys2Proof.Laws.EncodedLength.bit0AtHL : Statement .bit0AtHL :=
  Sys2Proof.Laws.encodedLength_of_bytes 0xCB [0x46] rfl rfl
theorem Sys2Proof.Laws.EncodedLength.bit0A : Statement .bit0A :=
  Sys2Proof.Laws.encodedLength_of_bytes 0xCB [0x47] rfl rfl
theorem Sys2Proof.Laws.EncodedLength.bit1B : Statement .bit1B :=
  Sys2Proof.Laws.encodedLength_of_bytes 0xCB [0x48] rfl rfl
theorem Sys2Proof.Laws.EncodedLength.bit1C : Statement .bit1C :=
  Sys2Proof.Laws.encodedLength_of_bytes 0xCB [0x49] rfl rfl
theorem Sys2Proof.Laws.EncodedLength.bit1D : Statement .bit1D :=
  Sys2Proof.Laws.encodedLength_of_bytes 0xCB [0x4A] rfl rfl
theorem Sys2Proof.Laws.EncodedLength.bit1E : Statement .bit1E :=
  Sys2Proof.Laws.encodedLength_of_bytes 0xCB [0x4B] rfl rfl
theorem Sys2Proof.Laws.EncodedLength.bit1H : Statement .bit1H :=
  Sys2Proof.Laws.encodedLength_of_bytes 0xCB [0x4C] rfl rfl
theorem Sys2Proof.Laws.EncodedLength.bit1L : Statement .bit1L :=
  Sys2Proof.Laws.encodedLength_of_bytes 0xCB [0x4D] rfl rfl
theorem Sys2Proof.Laws.EncodedLength.bit1AtHL : Statement .bit1AtHL :=
  Sys2Proof.Laws.encodedLength_of_bytes 0xCB [0x4E] rfl rfl
theorem Sys2Proof.Laws.EncodedLength.bit1A : Statement .bit1A :=
  Sys2Proof.Laws.encodedLength_of_bytes 0xCB [0x4F] rfl rfl
theorem Sys2Proof.Laws.EncodedLength.bit2B : Statement .bit2B :=
  Sys2Proof.Laws.encodedLength_of_bytes 0xCB [0x50] rfl rfl
theorem Sys2Proof.Laws.EncodedLength.bit2C : Statement .bit2C :=
  Sys2Proof.Laws.encodedLength_of_bytes 0xCB [0x51] rfl rfl
theorem Sys2Proof.Laws.EncodedLength.bit2D : Statement .bit2D :=
  Sys2Proof.Laws.encodedLength_of_bytes 0xCB [0x52] rfl rfl
theorem Sys2Proof.Laws.EncodedLength.bit2E : Statement .bit2E :=
  Sys2Proof.Laws.encodedLength_of_bytes 0xCB [0x53] rfl rfl
theorem Sys2Proof.Laws.EncodedLength.bit2H : Statement .bit2H :=
  Sys2Proof.Laws.encodedLength_of_bytes 0xCB [0x54] rfl rfl
theorem Sys2Proof.Laws.EncodedLength.bit2L : Statement .bit2L :=
  Sys2Proof.Laws.encodedLength_of_bytes 0xCB [0x55] rfl rfl
theorem Sys2Proof.Laws.EncodedLength.bit2AtHL : Statement .bit2AtHL :=
  Sys2Proof.Laws.encodedLength_of_bytes 0xCB [0x56] rfl rfl
theorem Sys2Proof.Laws.EncodedLength.bit2A : Statement .bit2A :=
  Sys2Proof.Laws.encodedLength_of_bytes 0xCB [0x57] rfl rfl
theorem Sys2Proof.Laws.EncodedLength.bit3B : Statement .bit3B :=
  Sys2Proof.Laws.encodedLength_of_bytes 0xCB [0x58] rfl rfl
theorem Sys2Proof.Laws.EncodedLength.bit3C : Statement .bit3C :=
  Sys2Proof.Laws.encodedLength_of_bytes 0xCB [0x59] rfl rfl
theorem Sys2Proof.Laws.EncodedLength.bit3D : Statement .bit3D :=
  Sys2Proof.Laws.encodedLength_of_bytes 0xCB [0x5A] rfl rfl
theorem Sys2Proof.Laws.EncodedLength.bit3E : Statement .bit3E :=
  Sys2Proof.Laws.encodedLength_of_bytes 0xCB [0x5B] rfl rfl
theorem Sys2Proof.Laws.EncodedLength.bit3H : Statement .bit3H :=
  Sys2Proof.Laws.encodedLength_of_bytes 0xCB [0x5C] rfl rfl
theorem Sys2Proof.Laws.EncodedLength.bit3L : Statement .bit3L :=
  Sys2Proof.Laws.encodedLength_of_bytes 0xCB [0x5D] rfl rfl
theorem Sys2Proof.Laws.EncodedLength.bit3AtHL : Statement .bit3AtHL :=
  Sys2Proof.Laws.encodedLength_of_bytes 0xCB [0x5E] rfl rfl
theorem Sys2Proof.Laws.EncodedLength.bit3A : Statement .bit3A :=
  Sys2Proof.Laws.encodedLength_of_bytes 0xCB [0x5F] rfl rfl
theorem Sys2Proof.Laws.EncodedLength.bit4B : Statement .bit4B :=
  Sys2Proof.Laws.encodedLength_of_bytes 0xCB [0x60] rfl rfl
theorem Sys2Proof.Laws.EncodedLength.bit4C : Statement .bit4C :=
  Sys2Proof.Laws.encodedLength_of_bytes 0xCB [0x61] rfl rfl
theorem Sys2Proof.Laws.EncodedLength.bit4D : Statement .bit4D :=
  Sys2Proof.Laws.encodedLength_of_bytes 0xCB [0x62] rfl rfl
theorem Sys2Proof.Laws.EncodedLength.bit4E : Statement .bit4E :=
  Sys2Proof.Laws.encodedLength_of_bytes 0xCB [0x63] rfl rfl
theorem Sys2Proof.Laws.EncodedLength.bit4H : Statement .bit4H :=
  Sys2Proof.Laws.encodedLength_of_bytes 0xCB [0x64] rfl rfl
theorem Sys2Proof.Laws.EncodedLength.bit4L : Statement .bit4L :=
  Sys2Proof.Laws.encodedLength_of_bytes 0xCB [0x65] rfl rfl
theorem Sys2Proof.Laws.EncodedLength.bit4AtHL : Statement .bit4AtHL :=
  Sys2Proof.Laws.encodedLength_of_bytes 0xCB [0x66] rfl rfl
theorem Sys2Proof.Laws.EncodedLength.bit4A : Statement .bit4A :=
  Sys2Proof.Laws.encodedLength_of_bytes 0xCB [0x67] rfl rfl
theorem Sys2Proof.Laws.EncodedLength.bit5B : Statement .bit5B :=
  Sys2Proof.Laws.encodedLength_of_bytes 0xCB [0x68] rfl rfl
theorem Sys2Proof.Laws.EncodedLength.bit5C : Statement .bit5C :=
  Sys2Proof.Laws.encodedLength_of_bytes 0xCB [0x69] rfl rfl
theorem Sys2Proof.Laws.EncodedLength.bit5D : Statement .bit5D :=
  Sys2Proof.Laws.encodedLength_of_bytes 0xCB [0x6A] rfl rfl
theorem Sys2Proof.Laws.EncodedLength.bit5E : Statement .bit5E :=
  Sys2Proof.Laws.encodedLength_of_bytes 0xCB [0x6B] rfl rfl
theorem Sys2Proof.Laws.EncodedLength.bit5H : Statement .bit5H :=
  Sys2Proof.Laws.encodedLength_of_bytes 0xCB [0x6C] rfl rfl
theorem Sys2Proof.Laws.EncodedLength.bit5L : Statement .bit5L :=
  Sys2Proof.Laws.encodedLength_of_bytes 0xCB [0x6D] rfl rfl
theorem Sys2Proof.Laws.EncodedLength.bit5AtHL : Statement .bit5AtHL :=
  Sys2Proof.Laws.encodedLength_of_bytes 0xCB [0x6E] rfl rfl
theorem Sys2Proof.Laws.EncodedLength.bit5A : Statement .bit5A :=
  Sys2Proof.Laws.encodedLength_of_bytes 0xCB [0x6F] rfl rfl
theorem Sys2Proof.Laws.EncodedLength.bit6B : Statement .bit6B :=
  Sys2Proof.Laws.encodedLength_of_bytes 0xCB [0x70] rfl rfl
theorem Sys2Proof.Laws.EncodedLength.bit6C : Statement .bit6C :=
  Sys2Proof.Laws.encodedLength_of_bytes 0xCB [0x71] rfl rfl
theorem Sys2Proof.Laws.EncodedLength.bit6D : Statement .bit6D :=
  Sys2Proof.Laws.encodedLength_of_bytes 0xCB [0x72] rfl rfl
theorem Sys2Proof.Laws.EncodedLength.bit6E : Statement .bit6E :=
  Sys2Proof.Laws.encodedLength_of_bytes 0xCB [0x73] rfl rfl
theorem Sys2Proof.Laws.EncodedLength.bit6H : Statement .bit6H :=
  Sys2Proof.Laws.encodedLength_of_bytes 0xCB [0x74] rfl rfl
theorem Sys2Proof.Laws.EncodedLength.bit6L : Statement .bit6L :=
  Sys2Proof.Laws.encodedLength_of_bytes 0xCB [0x75] rfl rfl
theorem Sys2Proof.Laws.EncodedLength.bit6AtHL : Statement .bit6AtHL :=
  Sys2Proof.Laws.encodedLength_of_bytes 0xCB [0x76] rfl rfl
theorem Sys2Proof.Laws.EncodedLength.bit6A : Statement .bit6A :=
  Sys2Proof.Laws.encodedLength_of_bytes 0xCB [0x77] rfl rfl
theorem Sys2Proof.Laws.EncodedLength.bit7B : Statement .bit7B :=
  Sys2Proof.Laws.encodedLength_of_bytes 0xCB [0x78] rfl rfl
theorem Sys2Proof.Laws.EncodedLength.bit7C : Statement .bit7C :=
  Sys2Proof.Laws.encodedLength_of_bytes 0xCB [0x79] rfl rfl
theorem Sys2Proof.Laws.EncodedLength.bit7D : Statement .bit7D :=
  Sys2Proof.Laws.encodedLength_of_bytes 0xCB [0x7A] rfl rfl
theorem Sys2Proof.Laws.EncodedLength.bit7E : Statement .bit7E :=
  Sys2Proof.Laws.encodedLength_of_bytes 0xCB [0x7B] rfl rfl
theorem Sys2Proof.Laws.EncodedLength.bit7H : Statement .bit7H :=
  Sys2Proof.Laws.encodedLength_of_bytes 0xCB [0x7C] rfl rfl
theorem Sys2Proof.Laws.EncodedLength.bit7L : Statement .bit7L :=
  Sys2Proof.Laws.encodedLength_of_bytes 0xCB [0x7D] rfl rfl
theorem Sys2Proof.Laws.EncodedLength.bit7AtHL : Statement .bit7AtHL :=
  Sys2Proof.Laws.encodedLength_of_bytes 0xCB [0x7E] rfl rfl
theorem Sys2Proof.Laws.EncodedLength.bit7A : Statement .bit7A :=
  Sys2Proof.Laws.encodedLength_of_bytes 0xCB [0x7F] rfl rfl
theorem Sys2Proof.Laws.EncodedLength.res0B : Statement .res0B :=
  Sys2Proof.Laws.encodedLength_of_bytes 0xCB [0x80] rfl rfl
theorem Sys2Proof.Laws.EncodedLength.res0C : Statement .res0C :=
  Sys2Proof.Laws.encodedLength_of_bytes 0xCB [0x81] rfl rfl
theorem Sys2Proof.Laws.EncodedLength.res0D : Statement .res0D :=
  Sys2Proof.Laws.encodedLength_of_bytes 0xCB [0x82] rfl rfl
theorem Sys2Proof.Laws.EncodedLength.res0E : Statement .res0E :=
  Sys2Proof.Laws.encodedLength_of_bytes 0xCB [0x83] rfl rfl
theorem Sys2Proof.Laws.EncodedLength.res0H : Statement .res0H :=
  Sys2Proof.Laws.encodedLength_of_bytes 0xCB [0x84] rfl rfl
theorem Sys2Proof.Laws.EncodedLength.res0L : Statement .res0L :=
  Sys2Proof.Laws.encodedLength_of_bytes 0xCB [0x85] rfl rfl
theorem Sys2Proof.Laws.EncodedLength.res0AtHL : Statement .res0AtHL :=
  Sys2Proof.Laws.encodedLength_of_bytes 0xCB [0x86] rfl rfl
theorem Sys2Proof.Laws.EncodedLength.res0A : Statement .res0A :=
  Sys2Proof.Laws.encodedLength_of_bytes 0xCB [0x87] rfl rfl
theorem Sys2Proof.Laws.EncodedLength.res1B : Statement .res1B :=
  Sys2Proof.Laws.encodedLength_of_bytes 0xCB [0x88] rfl rfl
theorem Sys2Proof.Laws.EncodedLength.res1C : Statement .res1C :=
  Sys2Proof.Laws.encodedLength_of_bytes 0xCB [0x89] rfl rfl
theorem Sys2Proof.Laws.EncodedLength.res1D : Statement .res1D :=
  Sys2Proof.Laws.encodedLength_of_bytes 0xCB [0x8A] rfl rfl
theorem Sys2Proof.Laws.EncodedLength.res1E : Statement .res1E :=
  Sys2Proof.Laws.encodedLength_of_bytes 0xCB [0x8B] rfl rfl
theorem Sys2Proof.Laws.EncodedLength.res1H : Statement .res1H :=
  Sys2Proof.Laws.encodedLength_of_bytes 0xCB [0x8C] rfl rfl
theorem Sys2Proof.Laws.EncodedLength.res1L : Statement .res1L :=
  Sys2Proof.Laws.encodedLength_of_bytes 0xCB [0x8D] rfl rfl
theorem Sys2Proof.Laws.EncodedLength.res1AtHL : Statement .res1AtHL :=
  Sys2Proof.Laws.encodedLength_of_bytes 0xCB [0x8E] rfl rfl
theorem Sys2Proof.Laws.EncodedLength.res1A : Statement .res1A :=
  Sys2Proof.Laws.encodedLength_of_bytes 0xCB [0x8F] rfl rfl
theorem Sys2Proof.Laws.EncodedLength.res2B : Statement .res2B :=
  Sys2Proof.Laws.encodedLength_of_bytes 0xCB [0x90] rfl rfl
theorem Sys2Proof.Laws.EncodedLength.res2C : Statement .res2C :=
  Sys2Proof.Laws.encodedLength_of_bytes 0xCB [0x91] rfl rfl
theorem Sys2Proof.Laws.EncodedLength.res2D : Statement .res2D :=
  Sys2Proof.Laws.encodedLength_of_bytes 0xCB [0x92] rfl rfl
theorem Sys2Proof.Laws.EncodedLength.res2E : Statement .res2E :=
  Sys2Proof.Laws.encodedLength_of_bytes 0xCB [0x93] rfl rfl
theorem Sys2Proof.Laws.EncodedLength.res2H : Statement .res2H :=
  Sys2Proof.Laws.encodedLength_of_bytes 0xCB [0x94] rfl rfl
theorem Sys2Proof.Laws.EncodedLength.res2L : Statement .res2L :=
  Sys2Proof.Laws.encodedLength_of_bytes 0xCB [0x95] rfl rfl
theorem Sys2Proof.Laws.EncodedLength.res2AtHL : Statement .res2AtHL :=
  Sys2Proof.Laws.encodedLength_of_bytes 0xCB [0x96] rfl rfl
theorem Sys2Proof.Laws.EncodedLength.res2A : Statement .res2A :=
  Sys2Proof.Laws.encodedLength_of_bytes 0xCB [0x97] rfl rfl
theorem Sys2Proof.Laws.EncodedLength.res3B : Statement .res3B :=
  Sys2Proof.Laws.encodedLength_of_bytes 0xCB [0x98] rfl rfl
theorem Sys2Proof.Laws.EncodedLength.res3C : Statement .res3C :=
  Sys2Proof.Laws.encodedLength_of_bytes 0xCB [0x99] rfl rfl
theorem Sys2Proof.Laws.EncodedLength.res3D : Statement .res3D :=
  Sys2Proof.Laws.encodedLength_of_bytes 0xCB [0x9A] rfl rfl
theorem Sys2Proof.Laws.EncodedLength.res3E : Statement .res3E :=
  Sys2Proof.Laws.encodedLength_of_bytes 0xCB [0x9B] rfl rfl
theorem Sys2Proof.Laws.EncodedLength.res3H : Statement .res3H :=
  Sys2Proof.Laws.encodedLength_of_bytes 0xCB [0x9C] rfl rfl
theorem Sys2Proof.Laws.EncodedLength.res3L : Statement .res3L :=
  Sys2Proof.Laws.encodedLength_of_bytes 0xCB [0x9D] rfl rfl
theorem Sys2Proof.Laws.EncodedLength.res3AtHL : Statement .res3AtHL :=
  Sys2Proof.Laws.encodedLength_of_bytes 0xCB [0x9E] rfl rfl
theorem Sys2Proof.Laws.EncodedLength.res3A : Statement .res3A :=
  Sys2Proof.Laws.encodedLength_of_bytes 0xCB [0x9F] rfl rfl
theorem Sys2Proof.Laws.EncodedLength.res4B : Statement .res4B :=
  Sys2Proof.Laws.encodedLength_of_bytes 0xCB [0xA0] rfl rfl
theorem Sys2Proof.Laws.EncodedLength.res4C : Statement .res4C :=
  Sys2Proof.Laws.encodedLength_of_bytes 0xCB [0xA1] rfl rfl
theorem Sys2Proof.Laws.EncodedLength.res4D : Statement .res4D :=
  Sys2Proof.Laws.encodedLength_of_bytes 0xCB [0xA2] rfl rfl
theorem Sys2Proof.Laws.EncodedLength.res4E : Statement .res4E :=
  Sys2Proof.Laws.encodedLength_of_bytes 0xCB [0xA3] rfl rfl
theorem Sys2Proof.Laws.EncodedLength.res4H : Statement .res4H :=
  Sys2Proof.Laws.encodedLength_of_bytes 0xCB [0xA4] rfl rfl
theorem Sys2Proof.Laws.EncodedLength.res4L : Statement .res4L :=
  Sys2Proof.Laws.encodedLength_of_bytes 0xCB [0xA5] rfl rfl
theorem Sys2Proof.Laws.EncodedLength.res4AtHL : Statement .res4AtHL :=
  Sys2Proof.Laws.encodedLength_of_bytes 0xCB [0xA6] rfl rfl
theorem Sys2Proof.Laws.EncodedLength.res4A : Statement .res4A :=
  Sys2Proof.Laws.encodedLength_of_bytes 0xCB [0xA7] rfl rfl
theorem Sys2Proof.Laws.EncodedLength.res5B : Statement .res5B :=
  Sys2Proof.Laws.encodedLength_of_bytes 0xCB [0xA8] rfl rfl
theorem Sys2Proof.Laws.EncodedLength.res5C : Statement .res5C :=
  Sys2Proof.Laws.encodedLength_of_bytes 0xCB [0xA9] rfl rfl
theorem Sys2Proof.Laws.EncodedLength.res5D : Statement .res5D :=
  Sys2Proof.Laws.encodedLength_of_bytes 0xCB [0xAA] rfl rfl
theorem Sys2Proof.Laws.EncodedLength.res5E : Statement .res5E :=
  Sys2Proof.Laws.encodedLength_of_bytes 0xCB [0xAB] rfl rfl
theorem Sys2Proof.Laws.EncodedLength.res5H : Statement .res5H :=
  Sys2Proof.Laws.encodedLength_of_bytes 0xCB [0xAC] rfl rfl
theorem Sys2Proof.Laws.EncodedLength.res5L : Statement .res5L :=
  Sys2Proof.Laws.encodedLength_of_bytes 0xCB [0xAD] rfl rfl
theorem Sys2Proof.Laws.EncodedLength.res5AtHL : Statement .res5AtHL :=
  Sys2Proof.Laws.encodedLength_of_bytes 0xCB [0xAE] rfl rfl
theorem Sys2Proof.Laws.EncodedLength.res5A : Statement .res5A :=
  Sys2Proof.Laws.encodedLength_of_bytes 0xCB [0xAF] rfl rfl
theorem Sys2Proof.Laws.EncodedLength.res6B : Statement .res6B :=
  Sys2Proof.Laws.encodedLength_of_bytes 0xCB [0xB0] rfl rfl
theorem Sys2Proof.Laws.EncodedLength.res6C : Statement .res6C :=
  Sys2Proof.Laws.encodedLength_of_bytes 0xCB [0xB1] rfl rfl
theorem Sys2Proof.Laws.EncodedLength.res6D : Statement .res6D :=
  Sys2Proof.Laws.encodedLength_of_bytes 0xCB [0xB2] rfl rfl
theorem Sys2Proof.Laws.EncodedLength.res6E : Statement .res6E :=
  Sys2Proof.Laws.encodedLength_of_bytes 0xCB [0xB3] rfl rfl
theorem Sys2Proof.Laws.EncodedLength.res6H : Statement .res6H :=
  Sys2Proof.Laws.encodedLength_of_bytes 0xCB [0xB4] rfl rfl
theorem Sys2Proof.Laws.EncodedLength.res6L : Statement .res6L :=
  Sys2Proof.Laws.encodedLength_of_bytes 0xCB [0xB5] rfl rfl
theorem Sys2Proof.Laws.EncodedLength.res6AtHL : Statement .res6AtHL :=
  Sys2Proof.Laws.encodedLength_of_bytes 0xCB [0xB6] rfl rfl
theorem Sys2Proof.Laws.EncodedLength.res6A : Statement .res6A :=
  Sys2Proof.Laws.encodedLength_of_bytes 0xCB [0xB7] rfl rfl
theorem Sys2Proof.Laws.EncodedLength.res7B : Statement .res7B :=
  Sys2Proof.Laws.encodedLength_of_bytes 0xCB [0xB8] rfl rfl
theorem Sys2Proof.Laws.EncodedLength.res7C : Statement .res7C :=
  Sys2Proof.Laws.encodedLength_of_bytes 0xCB [0xB9] rfl rfl
theorem Sys2Proof.Laws.EncodedLength.res7D : Statement .res7D :=
  Sys2Proof.Laws.encodedLength_of_bytes 0xCB [0xBA] rfl rfl
theorem Sys2Proof.Laws.EncodedLength.res7E : Statement .res7E :=
  Sys2Proof.Laws.encodedLength_of_bytes 0xCB [0xBB] rfl rfl
theorem Sys2Proof.Laws.EncodedLength.res7H : Statement .res7H :=
  Sys2Proof.Laws.encodedLength_of_bytes 0xCB [0xBC] rfl rfl
theorem Sys2Proof.Laws.EncodedLength.res7L : Statement .res7L :=
  Sys2Proof.Laws.encodedLength_of_bytes 0xCB [0xBD] rfl rfl
theorem Sys2Proof.Laws.EncodedLength.res7AtHL : Statement .res7AtHL :=
  Sys2Proof.Laws.encodedLength_of_bytes 0xCB [0xBE] rfl rfl
theorem Sys2Proof.Laws.EncodedLength.res7A : Statement .res7A :=
  Sys2Proof.Laws.encodedLength_of_bytes 0xCB [0xBF] rfl rfl
theorem Sys2Proof.Laws.EncodedLength.set0B : Statement .set0B :=
  Sys2Proof.Laws.encodedLength_of_bytes 0xCB [0xC0] rfl rfl
theorem Sys2Proof.Laws.EncodedLength.set0C : Statement .set0C :=
  Sys2Proof.Laws.encodedLength_of_bytes 0xCB [0xC1] rfl rfl
theorem Sys2Proof.Laws.EncodedLength.set0D : Statement .set0D :=
  Sys2Proof.Laws.encodedLength_of_bytes 0xCB [0xC2] rfl rfl
theorem Sys2Proof.Laws.EncodedLength.set0E : Statement .set0E :=
  Sys2Proof.Laws.encodedLength_of_bytes 0xCB [0xC3] rfl rfl
theorem Sys2Proof.Laws.EncodedLength.set0H : Statement .set0H :=
  Sys2Proof.Laws.encodedLength_of_bytes 0xCB [0xC4] rfl rfl
theorem Sys2Proof.Laws.EncodedLength.set0L : Statement .set0L :=
  Sys2Proof.Laws.encodedLength_of_bytes 0xCB [0xC5] rfl rfl
theorem Sys2Proof.Laws.EncodedLength.set0AtHL : Statement .set0AtHL :=
  Sys2Proof.Laws.encodedLength_of_bytes 0xCB [0xC6] rfl rfl
theorem Sys2Proof.Laws.EncodedLength.set0A : Statement .set0A :=
  Sys2Proof.Laws.encodedLength_of_bytes 0xCB [0xC7] rfl rfl
theorem Sys2Proof.Laws.EncodedLength.set1B : Statement .set1B :=
  Sys2Proof.Laws.encodedLength_of_bytes 0xCB [0xC8] rfl rfl
theorem Sys2Proof.Laws.EncodedLength.set1C : Statement .set1C :=
  Sys2Proof.Laws.encodedLength_of_bytes 0xCB [0xC9] rfl rfl
theorem Sys2Proof.Laws.EncodedLength.set1D : Statement .set1D :=
  Sys2Proof.Laws.encodedLength_of_bytes 0xCB [0xCA] rfl rfl
theorem Sys2Proof.Laws.EncodedLength.set1E : Statement .set1E :=
  Sys2Proof.Laws.encodedLength_of_bytes 0xCB [0xCB] rfl rfl
theorem Sys2Proof.Laws.EncodedLength.set1H : Statement .set1H :=
  Sys2Proof.Laws.encodedLength_of_bytes 0xCB [0xCC] rfl rfl
theorem Sys2Proof.Laws.EncodedLength.set1L : Statement .set1L :=
  Sys2Proof.Laws.encodedLength_of_bytes 0xCB [0xCD] rfl rfl
theorem Sys2Proof.Laws.EncodedLength.set1AtHL : Statement .set1AtHL :=
  Sys2Proof.Laws.encodedLength_of_bytes 0xCB [0xCE] rfl rfl
theorem Sys2Proof.Laws.EncodedLength.set1A : Statement .set1A :=
  Sys2Proof.Laws.encodedLength_of_bytes 0xCB [0xCF] rfl rfl
theorem Sys2Proof.Laws.EncodedLength.set2B : Statement .set2B :=
  Sys2Proof.Laws.encodedLength_of_bytes 0xCB [0xD0] rfl rfl
theorem Sys2Proof.Laws.EncodedLength.set2C : Statement .set2C :=
  Sys2Proof.Laws.encodedLength_of_bytes 0xCB [0xD1] rfl rfl
theorem Sys2Proof.Laws.EncodedLength.set2D : Statement .set2D :=
  Sys2Proof.Laws.encodedLength_of_bytes 0xCB [0xD2] rfl rfl
theorem Sys2Proof.Laws.EncodedLength.set2E : Statement .set2E :=
  Sys2Proof.Laws.encodedLength_of_bytes 0xCB [0xD3] rfl rfl
theorem Sys2Proof.Laws.EncodedLength.set2H : Statement .set2H :=
  Sys2Proof.Laws.encodedLength_of_bytes 0xCB [0xD4] rfl rfl
theorem Sys2Proof.Laws.EncodedLength.set2L : Statement .set2L :=
  Sys2Proof.Laws.encodedLength_of_bytes 0xCB [0xD5] rfl rfl
theorem Sys2Proof.Laws.EncodedLength.set2AtHL : Statement .set2AtHL :=
  Sys2Proof.Laws.encodedLength_of_bytes 0xCB [0xD6] rfl rfl
theorem Sys2Proof.Laws.EncodedLength.set2A : Statement .set2A :=
  Sys2Proof.Laws.encodedLength_of_bytes 0xCB [0xD7] rfl rfl
theorem Sys2Proof.Laws.EncodedLength.set3B : Statement .set3B :=
  Sys2Proof.Laws.encodedLength_of_bytes 0xCB [0xD8] rfl rfl
theorem Sys2Proof.Laws.EncodedLength.set3C : Statement .set3C :=
  Sys2Proof.Laws.encodedLength_of_bytes 0xCB [0xD9] rfl rfl
theorem Sys2Proof.Laws.EncodedLength.set3D : Statement .set3D :=
  Sys2Proof.Laws.encodedLength_of_bytes 0xCB [0xDA] rfl rfl
theorem Sys2Proof.Laws.EncodedLength.set3E : Statement .set3E :=
  Sys2Proof.Laws.encodedLength_of_bytes 0xCB [0xDB] rfl rfl
theorem Sys2Proof.Laws.EncodedLength.set3H : Statement .set3H :=
  Sys2Proof.Laws.encodedLength_of_bytes 0xCB [0xDC] rfl rfl
theorem Sys2Proof.Laws.EncodedLength.set3L : Statement .set3L :=
  Sys2Proof.Laws.encodedLength_of_bytes 0xCB [0xDD] rfl rfl
theorem Sys2Proof.Laws.EncodedLength.set3AtHL : Statement .set3AtHL :=
  Sys2Proof.Laws.encodedLength_of_bytes 0xCB [0xDE] rfl rfl
theorem Sys2Proof.Laws.EncodedLength.set3A : Statement .set3A :=
  Sys2Proof.Laws.encodedLength_of_bytes 0xCB [0xDF] rfl rfl
theorem Sys2Proof.Laws.EncodedLength.set4B : Statement .set4B :=
  Sys2Proof.Laws.encodedLength_of_bytes 0xCB [0xE0] rfl rfl
theorem Sys2Proof.Laws.EncodedLength.set4C : Statement .set4C :=
  Sys2Proof.Laws.encodedLength_of_bytes 0xCB [0xE1] rfl rfl
theorem Sys2Proof.Laws.EncodedLength.set4D : Statement .set4D :=
  Sys2Proof.Laws.encodedLength_of_bytes 0xCB [0xE2] rfl rfl
theorem Sys2Proof.Laws.EncodedLength.set4E : Statement .set4E :=
  Sys2Proof.Laws.encodedLength_of_bytes 0xCB [0xE3] rfl rfl
theorem Sys2Proof.Laws.EncodedLength.set4H : Statement .set4H :=
  Sys2Proof.Laws.encodedLength_of_bytes 0xCB [0xE4] rfl rfl
theorem Sys2Proof.Laws.EncodedLength.set4L : Statement .set4L :=
  Sys2Proof.Laws.encodedLength_of_bytes 0xCB [0xE5] rfl rfl
theorem Sys2Proof.Laws.EncodedLength.set4AtHL : Statement .set4AtHL :=
  Sys2Proof.Laws.encodedLength_of_bytes 0xCB [0xE6] rfl rfl
theorem Sys2Proof.Laws.EncodedLength.set4A : Statement .set4A :=
  Sys2Proof.Laws.encodedLength_of_bytes 0xCB [0xE7] rfl rfl
theorem Sys2Proof.Laws.EncodedLength.set5B : Statement .set5B :=
  Sys2Proof.Laws.encodedLength_of_bytes 0xCB [0xE8] rfl rfl
theorem Sys2Proof.Laws.EncodedLength.set5C : Statement .set5C :=
  Sys2Proof.Laws.encodedLength_of_bytes 0xCB [0xE9] rfl rfl
theorem Sys2Proof.Laws.EncodedLength.set5D : Statement .set5D :=
  Sys2Proof.Laws.encodedLength_of_bytes 0xCB [0xEA] rfl rfl
theorem Sys2Proof.Laws.EncodedLength.set5E : Statement .set5E :=
  Sys2Proof.Laws.encodedLength_of_bytes 0xCB [0xEB] rfl rfl
theorem Sys2Proof.Laws.EncodedLength.set5H : Statement .set5H :=
  Sys2Proof.Laws.encodedLength_of_bytes 0xCB [0xEC] rfl rfl
theorem Sys2Proof.Laws.EncodedLength.set5L : Statement .set5L :=
  Sys2Proof.Laws.encodedLength_of_bytes 0xCB [0xED] rfl rfl
theorem Sys2Proof.Laws.EncodedLength.set5AtHL : Statement .set5AtHL :=
  Sys2Proof.Laws.encodedLength_of_bytes 0xCB [0xEE] rfl rfl
theorem Sys2Proof.Laws.EncodedLength.set5A : Statement .set5A :=
  Sys2Proof.Laws.encodedLength_of_bytes 0xCB [0xEF] rfl rfl
theorem Sys2Proof.Laws.EncodedLength.set6B : Statement .set6B :=
  Sys2Proof.Laws.encodedLength_of_bytes 0xCB [0xF0] rfl rfl
theorem Sys2Proof.Laws.EncodedLength.set6C : Statement .set6C :=
  Sys2Proof.Laws.encodedLength_of_bytes 0xCB [0xF1] rfl rfl
theorem Sys2Proof.Laws.EncodedLength.set6D : Statement .set6D :=
  Sys2Proof.Laws.encodedLength_of_bytes 0xCB [0xF2] rfl rfl
theorem Sys2Proof.Laws.EncodedLength.set6E : Statement .set6E :=
  Sys2Proof.Laws.encodedLength_of_bytes 0xCB [0xF3] rfl rfl
theorem Sys2Proof.Laws.EncodedLength.set6H : Statement .set6H :=
  Sys2Proof.Laws.encodedLength_of_bytes 0xCB [0xF4] rfl rfl
theorem Sys2Proof.Laws.EncodedLength.set6L : Statement .set6L :=
  Sys2Proof.Laws.encodedLength_of_bytes 0xCB [0xF5] rfl rfl
theorem Sys2Proof.Laws.EncodedLength.set6AtHL : Statement .set6AtHL :=
  Sys2Proof.Laws.encodedLength_of_bytes 0xCB [0xF6] rfl rfl
theorem Sys2Proof.Laws.EncodedLength.set6A : Statement .set6A :=
  Sys2Proof.Laws.encodedLength_of_bytes 0xCB [0xF7] rfl rfl
theorem Sys2Proof.Laws.EncodedLength.set7B : Statement .set7B :=
  Sys2Proof.Laws.encodedLength_of_bytes 0xCB [0xF8] rfl rfl
theorem Sys2Proof.Laws.EncodedLength.set7C : Statement .set7C :=
  Sys2Proof.Laws.encodedLength_of_bytes 0xCB [0xF9] rfl rfl
theorem Sys2Proof.Laws.EncodedLength.set7D : Statement .set7D :=
  Sys2Proof.Laws.encodedLength_of_bytes 0xCB [0xFA] rfl rfl
theorem Sys2Proof.Laws.EncodedLength.set7E : Statement .set7E :=
  Sys2Proof.Laws.encodedLength_of_bytes 0xCB [0xFB] rfl rfl
theorem Sys2Proof.Laws.EncodedLength.set7H : Statement .set7H :=
  Sys2Proof.Laws.encodedLength_of_bytes 0xCB [0xFC] rfl rfl
theorem Sys2Proof.Laws.EncodedLength.set7L : Statement .set7L :=
  Sys2Proof.Laws.encodedLength_of_bytes 0xCB [0xFD] rfl rfl
theorem Sys2Proof.Laws.EncodedLength.set7AtHL : Statement .set7AtHL :=
  Sys2Proof.Laws.encodedLength_of_bytes 0xCB [0xFE] rfl rfl
theorem Sys2Proof.Laws.EncodedLength.set7A : Statement .set7A :=
  Sys2Proof.Laws.encodedLength_of_bytes 0xCB [0xFF] rfl rfl
theorem Sys2Proof.Laws.EncodedLength.jr (e : Sys2Proof.Byte) : Statement (.jr e) :=
  Sys2Proof.Laws.encodedLength_of_bytes 0x18 [e] rfl rfl
theorem Sys2Proof.Laws.EncodedLength.jrNZ (e : Sys2Proof.Byte) : Statement (.jrNZ e) :=
  Sys2Proof.Laws.encodedLength_of_bytes 0x20 [e] rfl rfl
theorem Sys2Proof.Laws.EncodedLength.jrZ (e : Sys2Proof.Byte) : Statement (.jrZ e) :=
  Sys2Proof.Laws.encodedLength_of_bytes 0x28 [e] rfl rfl
theorem Sys2Proof.Laws.EncodedLength.jrNC (e : Sys2Proof.Byte) : Statement (.jrNC e) :=
  Sys2Proof.Laws.encodedLength_of_bytes 0x30 [e] rfl rfl
theorem Sys2Proof.Laws.EncodedLength.jrC (e : Sys2Proof.Byte) : Statement (.jrC e) :=
  Sys2Proof.Laws.encodedLength_of_bytes 0x38 [e] rfl rfl
theorem Sys2Proof.Laws.EncodedLength.retNZ : Statement .retNZ :=
  Sys2Proof.Laws.encodedLength_of_bytes 0xC0 [] rfl rfl
theorem Sys2Proof.Laws.EncodedLength.jpNZ (nn : Sys2Proof.Word) : Statement (.jpNZ nn) :=
  Sys2Proof.Laws.encodedLength_of_bytes 0xC2 [Sys2Proof.loByte nn, Sys2Proof.hiByte nn] rfl rfl
theorem Sys2Proof.Laws.EncodedLength.jp (nn : Sys2Proof.Word) : Statement (.jp nn) :=
  Sys2Proof.Laws.encodedLength_of_bytes 0xC3 [Sys2Proof.loByte nn, Sys2Proof.hiByte nn] rfl rfl
theorem Sys2Proof.Laws.EncodedLength.callNZ (nn : Sys2Proof.Word) : Statement (.callNZ nn) :=
  Sys2Proof.Laws.encodedLength_of_bytes 0xC4 [Sys2Proof.loByte nn, Sys2Proof.hiByte nn] rfl rfl
theorem Sys2Proof.Laws.EncodedLength.rst00 : Statement .rst00 :=
  Sys2Proof.Laws.encodedLength_of_bytes 0xC7 [] rfl rfl
theorem Sys2Proof.Laws.EncodedLength.retZ : Statement .retZ :=
  Sys2Proof.Laws.encodedLength_of_bytes 0xC8 [] rfl rfl
theorem Sys2Proof.Laws.EncodedLength.ret : Statement .ret :=
  Sys2Proof.Laws.encodedLength_of_bytes 0xC9 [] rfl rfl
theorem Sys2Proof.Laws.EncodedLength.jpZ (nn : Sys2Proof.Word) : Statement (.jpZ nn) :=
  Sys2Proof.Laws.encodedLength_of_bytes 0xCA [Sys2Proof.loByte nn, Sys2Proof.hiByte nn] rfl rfl
theorem Sys2Proof.Laws.EncodedLength.callZ (nn : Sys2Proof.Word) : Statement (.callZ nn) :=
  Sys2Proof.Laws.encodedLength_of_bytes 0xCC [Sys2Proof.loByte nn, Sys2Proof.hiByte nn] rfl rfl
theorem Sys2Proof.Laws.EncodedLength.call (nn : Sys2Proof.Word) : Statement (.call nn) :=
  Sys2Proof.Laws.encodedLength_of_bytes 0xCD [Sys2Proof.loByte nn, Sys2Proof.hiByte nn] rfl rfl
theorem Sys2Proof.Laws.EncodedLength.rst08 : Statement .rst08 :=
  Sys2Proof.Laws.encodedLength_of_bytes 0xCF [] rfl rfl
theorem Sys2Proof.Laws.EncodedLength.retNC : Statement .retNC :=
  Sys2Proof.Laws.encodedLength_of_bytes 0xD0 [] rfl rfl
theorem Sys2Proof.Laws.EncodedLength.jpNC (nn : Sys2Proof.Word) : Statement (.jpNC nn) :=
  Sys2Proof.Laws.encodedLength_of_bytes 0xD2 [Sys2Proof.loByte nn, Sys2Proof.hiByte nn] rfl rfl
theorem Sys2Proof.Laws.EncodedLength.callNC (nn : Sys2Proof.Word) : Statement (.callNC nn) :=
  Sys2Proof.Laws.encodedLength_of_bytes 0xD4 [Sys2Proof.loByte nn, Sys2Proof.hiByte nn] rfl rfl
theorem Sys2Proof.Laws.EncodedLength.rst10 : Statement .rst10 :=
  Sys2Proof.Laws.encodedLength_of_bytes 0xD7 [] rfl rfl
theorem Sys2Proof.Laws.EncodedLength.retC : Statement .retC :=
  Sys2Proof.Laws.encodedLength_of_bytes 0xD8 [] rfl rfl
theorem Sys2Proof.Laws.EncodedLength.reti : Statement .reti :=
  Sys2Proof.Laws.encodedLength_of_bytes 0xD9 [] rfl rfl
theorem Sys2Proof.Laws.EncodedLength.jpC (nn : Sys2Proof.Word) : Statement (.jpC nn) :=
  Sys2Proof.Laws.encodedLength_of_bytes 0xDA [Sys2Proof.loByte nn, Sys2Proof.hiByte nn] rfl rfl
theorem Sys2Proof.Laws.EncodedLength.callC (nn : Sys2Proof.Word) : Statement (.callC nn) :=
  Sys2Proof.Laws.encodedLength_of_bytes 0xDC [Sys2Proof.loByte nn, Sys2Proof.hiByte nn] rfl rfl
theorem Sys2Proof.Laws.EncodedLength.rst18 : Statement .rst18 :=
  Sys2Proof.Laws.encodedLength_of_bytes 0xDF [] rfl rfl
theorem Sys2Proof.Laws.EncodedLength.rst20 : Statement .rst20 :=
  Sys2Proof.Laws.encodedLength_of_bytes 0xE7 [] rfl rfl
theorem Sys2Proof.Laws.EncodedLength.jpHL : Statement .jpHL :=
  Sys2Proof.Laws.encodedLength_of_bytes 0xE9 [] rfl rfl
theorem Sys2Proof.Laws.EncodedLength.rst28 : Statement .rst28 :=
  Sys2Proof.Laws.encodedLength_of_bytes 0xEF [] rfl rfl
theorem Sys2Proof.Laws.EncodedLength.rst30 : Statement .rst30 :=
  Sys2Proof.Laws.encodedLength_of_bytes 0xF7 [] rfl rfl
theorem Sys2Proof.Laws.EncodedLength.rst38 : Statement .rst38 :=
  Sys2Proof.Laws.encodedLength_of_bytes 0xFF [] rfl rfl
theorem Sys2Proof.Laws.EncodedLength.nop : Statement .nop :=
  Sys2Proof.Laws.encodedLength_of_bytes 0x00 [] rfl rfl
theorem Sys2Proof.Laws.EncodedLength.stop : Statement .stop :=
  Sys2Proof.Laws.encodedLength_of_bytes 0x10 [] rfl rfl
theorem Sys2Proof.Laws.EncodedLength.halt : Statement .halt :=
  Sys2Proof.Laws.encodedLength_of_bytes 0x76 [] rfl rfl
theorem Sys2Proof.Laws.EncodedLength.unrecognisedD3 : Statement .unrecognisedD3 :=
  Sys2Proof.Laws.encodedLength_of_bytes 0xD3 [] rfl rfl
theorem Sys2Proof.Laws.EncodedLength.unrecognisedDB : Statement .unrecognisedDB :=
  Sys2Proof.Laws.encodedLength_of_bytes 0xDB [] rfl rfl
theorem Sys2Proof.Laws.EncodedLength.unrecognisedDD : Statement .unrecognisedDD :=
  Sys2Proof.Laws.encodedLength_of_bytes 0xDD [] rfl rfl
theorem Sys2Proof.Laws.EncodedLength.unrecognisedE3 : Statement .unrecognisedE3 :=
  Sys2Proof.Laws.encodedLength_of_bytes 0xE3 [] rfl rfl
theorem Sys2Proof.Laws.EncodedLength.unrecognisedE4 : Statement .unrecognisedE4 :=
  Sys2Proof.Laws.encodedLength_of_bytes 0xE4 [] rfl rfl
theorem Sys2Proof.Laws.EncodedLength.unrecognisedEB : Statement .unrecognisedEB :=
  Sys2Proof.Laws.encodedLength_of_bytes 0xEB [] rfl rfl
theorem Sys2Proof.Laws.EncodedLength.unrecognisedEC : Statement .unrecognisedEC :=
  Sys2Proof.Laws.encodedLength_of_bytes 0xEC [] rfl rfl
theorem Sys2Proof.Laws.EncodedLength.unrecognisedED : Statement .unrecognisedED :=
  Sys2Proof.Laws.encodedLength_of_bytes 0xED [] rfl rfl
theorem Sys2Proof.Laws.EncodedLength.di : Statement .di :=
  Sys2Proof.Laws.encodedLength_of_bytes 0xF3 [] rfl rfl
theorem Sys2Proof.Laws.EncodedLength.unrecognisedF4 : Statement .unrecognisedF4 :=
  Sys2Proof.Laws.encodedLength_of_bytes 0xF4 [] rfl rfl
theorem Sys2Proof.Laws.EncodedLength.ei : Statement .ei :=
  Sys2Proof.Laws.encodedLength_of_bytes 0xFB [] rfl rfl
theorem Sys2Proof.Laws.EncodedLength.unrecognisedFC : Statement .unrecognisedFC :=
  Sys2Proof.Laws.encodedLength_of_bytes 0xFC [] rfl rfl
theorem Sys2Proof.Laws.EncodedLength.unrecognisedFD : Statement .unrecognisedFD :=
  Sys2Proof.Laws.encodedLength_of_bytes 0xFD [] rfl rfl
end

