-- ==== Sys2Proof/Tests/Slice0.lean ====
section
/-! SUPPORT. The model's own tests, few and small: decodings of words written from the tables of R140 to R145, the
well-formedness check on the eleven unrecognised bytes, single steps with expected values from spec/95_test_vectors.md (its
vector numbers are in the comments), and for each obligation with hypotheses a state that meets them together. -/

namespace Sys2Proof.Tests.Slice0

open Sys2Proof Sys2Proof.Machine

/-- Every word decodes to the instruction at its place in the other list, with nothing left over. -/
def decodesTo : List (List Byte) → List Instr → Bool
  | [], [] => true
  | w :: ws, i :: is =>
    (match decode w with
      | .ok (j, rest) => decide (j = i) && rest.isEmpty
      | .error _ => false) && decodesTo ws is
  | [], _ :: _ => false
  | _ :: _, [] => false

/-! Decoding: every opcode-table row, its word written from the tables of R140 to R145. -/

theorem test_decode_00 : decodesTo [[0x00], [0x01, 0x34, 0x12], [0x02], [0x03], [0x04], [0x05], [0x06, 0x5A], [0x07]]
    [.nop, .ldBCNN 0x1234, .ldAtBCA, .incBC, .incB, .decB, .ldBN 0x5A, .rlca] = true := by decide
theorem test_decode_08 : decodesTo [[0x08, 0x34, 0x12], [0x09], [0x0A], [0x0B], [0x0C], [0x0D], [0x0E, 0x5A], [0x0F]]
    [.ldAtNNSP 0x1234, .addHLBC, .ldAAtBC, .decBC, .incC, .decC, .ldCN 0x5A, .rrca] = true := by decide
theorem test_decode_10 : decodesTo [[0x10], [0x11, 0x34, 0x12], [0x12], [0x13], [0x14], [0x15], [0x16, 0x5A], [0x17]]
    [.stop, .ldDENN 0x1234, .ldAtDEA, .incDE, .incD, .decD, .ldDN 0x5A, .rla] = true := by decide
theorem test_decode_18 : decodesTo [[0x18, 0xFE], [0x19], [0x1A], [0x1B], [0x1C], [0x1D], [0x1E, 0x5A], [0x1F]]
    [.jr 0xFE, .addHLDE, .ldAAtDE, .decDE, .incE, .decE, .ldEN 0x5A, .rra] = true := by decide
theorem test_decode_20 : decodesTo [[0x20, 0xFE], [0x21, 0x34, 0x12], [0x22], [0x23], [0x24], [0x25], [0x26, 0x5A], [0x27]]
    [.jrNZ 0xFE, .ldHLNN 0x1234, .ldAtHLIncA, .incHL, .incH, .decH, .ldHN 0x5A, .daa] = true := by decide
theorem test_decode_28 : decodesTo [[0x28, 0xFE], [0x29], [0x2A], [0x2B], [0x2C], [0x2D], [0x2E, 0x5A], [0x2F]]
    [.jrZ 0xFE, .addHLHL, .ldAAtHLInc, .decHL, .incL, .decL, .ldLN 0x5A, .cpl] = true := by decide
theorem test_decode_30 : decodesTo [[0x30, 0xFE], [0x31, 0x34, 0x12], [0x32], [0x33], [0x34], [0x35], [0x36, 0x5A], [0x37]]
    [.jrNC 0xFE, .ldSPNN 0x1234, .ldAtHLDecA, .incSP, .incAtHL, .decAtHL, .ldAtHLN 0x5A, .scf] = true := by decide
theorem test_decode_38 : decodesTo [[0x38, 0xFE], [0x39], [0x3A], [0x3B], [0x3C], [0x3D], [0x3E, 0x5A], [0x3F]]
    [.jrC 0xFE, .addHLSP, .ldAAtHLDec, .decSP, .incA, .decA, .ldAN 0x5A, .ccf] = true := by decide
theorem test_decode_40 : decodesTo [[0x40], [0x41], [0x42], [0x43], [0x44], [0x45], [0x46], [0x47]]
    [.ldBB, .ldBC, .ldBD, .ldBE, .ldBH, .ldBL, .ldBAtHL, .ldBA] = true := by decide
theorem test_decode_48 : decodesTo [[0x48], [0x49], [0x4A], [0x4B], [0x4C], [0x4D], [0x4E], [0x4F]]
    [.ldCB, .ldCC, .ldCD, .ldCE, .ldCH, .ldCL, .ldCAtHL, .ldCA] = true := by decide
theorem test_decode_50 : decodesTo [[0x50], [0x51], [0x52], [0x53], [0x54], [0x55], [0x56], [0x57]]
    [.ldDB, .ldDC, .ldDD, .ldDE, .ldDH, .ldDL, .ldDAtHL, .ldDA] = true := by decide
theorem test_decode_58 : decodesTo [[0x58], [0x59], [0x5A], [0x5B], [0x5C], [0x5D], [0x5E], [0x5F]]
    [.ldEB, .ldEC, .ldED, .ldEE, .ldEH, .ldEL, .ldEAtHL, .ldEA] = true := by decide
theorem test_decode_60 : decodesTo [[0x60], [0x61], [0x62], [0x63], [0x64], [0x65], [0x66], [0x67]]
    [.ldHB, .ldHC, .ldHD, .ldHE, .ldHH, .ldHL, .ldHAtHL, .ldHA] = true := by decide
theorem test_decode_68 : decodesTo [[0x68], [0x69], [0x6A], [0x6B], [0x6C], [0x6D], [0x6E], [0x6F]]
    [.ldLB, .ldLC, .ldLD, .ldLE, .ldLH, .ldLL, .ldLAtHL, .ldLA] = true := by decide
theorem test_decode_70 : decodesTo [[0x70], [0x71], [0x72], [0x73], [0x74], [0x75], [0x76], [0x77]]
    [.ldAtHLB, .ldAtHLC, .ldAtHLD, .ldAtHLE, .ldAtHLH, .ldAtHLL, .halt, .ldAtHLA] = true := by decide
theorem test_decode_78 : decodesTo [[0x78], [0x79], [0x7A], [0x7B], [0x7C], [0x7D], [0x7E], [0x7F]]
    [.ldAB, .ldAC, .ldAD, .ldAE, .ldAH, .ldAL, .ldAAtHL, .ldAA] = true := by decide
theorem test_decode_80 : decodesTo [[0x80], [0x81], [0x82], [0x83], [0x84], [0x85], [0x86], [0x87]]
    [.addAB, .addAC, .addAD, .addAE, .addAH, .addAL, .addAAtHL, .addAA] = true := by decide
theorem test_decode_88 : decodesTo [[0x88], [0x89], [0x8A], [0x8B], [0x8C], [0x8D], [0x8E], [0x8F]]
    [.adcAB, .adcAC, .adcAD, .adcAE, .adcAH, .adcAL, .adcAAtHL, .adcAA] = true := by decide
theorem test_decode_90 : decodesTo [[0x90], [0x91], [0x92], [0x93], [0x94], [0x95], [0x96], [0x97]]
    [.subB, .subC, .subD, .subE, .subH, .subL, .subAtHL, .subA] = true := by decide
theorem test_decode_98 : decodesTo [[0x98], [0x99], [0x9A], [0x9B], [0x9C], [0x9D], [0x9E], [0x9F]]
    [.sbcAB, .sbcAC, .sbcAD, .sbcAE, .sbcAH, .sbcAL, .sbcAAtHL, .sbcAA] = true := by decide
theorem test_decode_A0 : decodesTo [[0xA0], [0xA1], [0xA2], [0xA3], [0xA4], [0xA5], [0xA6], [0xA7]]
    [.andB, .andC, .andD, .andE, .andH, .andL, .andAtHL, .andA] = true := by decide
theorem test_decode_A8 : decodesTo [[0xA8], [0xA9], [0xAA], [0xAB], [0xAC], [0xAD], [0xAE], [0xAF]]
    [.xorB, .xorC, .xorD, .xorE, .xorH, .xorL, .xorAtHL, .xorA] = true := by decide
theorem test_decode_B0 : decodesTo [[0xB0], [0xB1], [0xB2], [0xB3], [0xB4], [0xB5], [0xB6], [0xB7]]
    [.orB, .orC, .orD, .orE, .orH, .orL, .orAtHL, .orA] = true := by decide
theorem test_decode_B8 : decodesTo [[0xB8], [0xB9], [0xBA], [0xBB], [0xBC], [0xBD], [0xBE], [0xBF]]
    [.cpB, .cpC, .cpD, .cpE, .cpH, .cpL, .cpAtHL, .cpA] = true := by decide
theorem test_decode_C0 : decodesTo [[0xC0], [0xC1], [0xC2, 0x34, 0x12], [0xC3, 0x34, 0x12], [0xC4, 0x34, 0x12], [0xC5], [0xC6, 0x5A], [0xC7]]
    [.retNZ, .popBC, .jpNZ 0x1234, .jp 0x1234, .callNZ 0x1234, .pushBC, .addAN 0x5A, .rst00] = true := by decide
theorem test_decode_C8 : decodesTo [[0xC8], [0xC9], [0xCA, 0x34, 0x12], [0xCC, 0x34, 0x12], [0xCD, 0x34, 0x12], [0xCE, 0x5A], [0xCF]]
    [.retZ, .ret, .jpZ 0x1234, .callZ 0x1234, .call 0x1234, .adcAN 0x5A, .rst08] = true := by decide
theorem test_decode_D0 : decodesTo [[0xD0], [0xD1], [0xD2, 0x34, 0x12], [0xD3], [0xD4, 0x34, 0x12], [0xD5], [0xD6, 0x5A], [0xD7]]
    [.retNC, .popDE, .jpNC 0x1234, .unrecognisedD3, .callNC 0x1234, .pushDE, .subN 0x5A, .rst10] = true := by decide
theorem test_decode_D8 : decodesTo [[0xD8], [0xD9], [0xDA, 0x34, 0x12], [0xDB], [0xDC, 0x34, 0x12], [0xDD], [0xDE, 0x5A], [0xDF]]
    [.retC, .reti, .jpC 0x1234, .unrecognisedDB, .callC 0x1234, .unrecognisedDD, .sbcAN 0x5A, .rst18] = true := by decide
theorem test_decode_E0 : decodesTo [[0xE0, 0x5A], [0xE1], [0xE2], [0xE3], [0xE4], [0xE5], [0xE6, 0x5A], [0xE7]]
    [.ldhAtNA 0x5A, .popHL, .ldAtHighCA, .unrecognisedE3, .unrecognisedE4, .pushHL, .andN 0x5A, .rst20] = true := by decide
theorem test_decode_E8 : decodesTo [[0xE8, 0xFE], [0xE9], [0xEA, 0x34, 0x12], [0xEB], [0xEC], [0xED], [0xEE, 0x5A], [0xEF]]
    [.addSPE 0xFE, .jpHL, .ldAtNNA 0x1234, .unrecognisedEB, .unrecognisedEC, .unrecognisedED, .xorN 0x5A, .rst28] = true := by decide
theorem test_decode_F0 : decodesTo [[0xF0, 0x5A], [0xF1], [0xF2], [0xF3], [0xF4], [0xF5], [0xF6, 0x5A], [0xF7]]
    [.ldhAAtN 0x5A, .popAF, .ldAAtHighC, .di, .unrecognisedF4, .pushAF, .orN 0x5A, .rst30] = true := by decide
theorem test_decode_F8 : decodesTo [[0xF8, 0xFE], [0xF9], [0xFA, 0x34, 0x12], [0xFB], [0xFC], [0xFD], [0xFE, 0x5A], [0xFF]]
    [.ldHLSPPlusE 0xFE, .ldSPHL, .ldAAtNN 0x1234, .ei, .unrecognisedFC, .unrecognisedFD, .cpN 0x5A, .rst38] = true := by decide
theorem test_decode_cb00 : decodesTo [[0xCB, 0x00], [0xCB, 0x01], [0xCB, 0x02], [0xCB, 0x03], [0xCB, 0x04], [0xCB, 0x05], [0xCB, 0x06], [0xCB, 0x07]]
    [.rlcB, .rlcC, .rlcD, .rlcE, .rlcH, .rlcL, .rlcAtHL, .rlcA] = true := by decide
theorem test_decode_cb08 : decodesTo [[0xCB, 0x08], [0xCB, 0x09], [0xCB, 0x0A], [0xCB, 0x0B], [0xCB, 0x0C], [0xCB, 0x0D], [0xCB, 0x0E], [0xCB, 0x0F]]
    [.rrcB, .rrcC, .rrcD, .rrcE, .rrcH, .rrcL, .rrcAtHL, .rrcA] = true := by decide
theorem test_decode_cb10 : decodesTo [[0xCB, 0x10], [0xCB, 0x11], [0xCB, 0x12], [0xCB, 0x13], [0xCB, 0x14], [0xCB, 0x15], [0xCB, 0x16], [0xCB, 0x17]]
    [.rlB, .rlC, .rlD, .rlE, .rlH, .rlL, .rlAtHL, .rlA] = true := by decide
theorem test_decode_cb18 : decodesTo [[0xCB, 0x18], [0xCB, 0x19], [0xCB, 0x1A], [0xCB, 0x1B], [0xCB, 0x1C], [0xCB, 0x1D], [0xCB, 0x1E], [0xCB, 0x1F]]
    [.rrB, .rrC, .rrD, .rrE, .rrH, .rrL, .rrAtHL, .rrA] = true := by decide
theorem test_decode_cb20 : decodesTo [[0xCB, 0x20], [0xCB, 0x21], [0xCB, 0x22], [0xCB, 0x23], [0xCB, 0x24], [0xCB, 0x25], [0xCB, 0x26], [0xCB, 0x27]]
    [.slaB, .slaC, .slaD, .slaE, .slaH, .slaL, .slaAtHL, .slaA] = true := by decide
theorem test_decode_cb28 : decodesTo [[0xCB, 0x28], [0xCB, 0x29], [0xCB, 0x2A], [0xCB, 0x2B], [0xCB, 0x2C], [0xCB, 0x2D], [0xCB, 0x2E], [0xCB, 0x2F]]
    [.sraB, .sraC, .sraD, .sraE, .sraH, .sraL, .sraAtHL, .sraA] = true := by decide
theorem test_decode_cb30 : decodesTo [[0xCB, 0x30], [0xCB, 0x31], [0xCB, 0x32], [0xCB, 0x33], [0xCB, 0x34], [0xCB, 0x35], [0xCB, 0x36], [0xCB, 0x37]]
    [.swapB, .swapC, .swapD, .swapE, .swapH, .swapL, .swapAtHL, .swapA] = true := by decide
theorem test_decode_cb38 : decodesTo [[0xCB, 0x38], [0xCB, 0x39], [0xCB, 0x3A], [0xCB, 0x3B], [0xCB, 0x3C], [0xCB, 0x3D], [0xCB, 0x3E], [0xCB, 0x3F]]
    [.srlB, .srlC, .srlD, .srlE, .srlH, .srlL, .srlAtHL, .srlA] = true := by decide
theorem test_decode_cb40 : decodesTo [[0xCB, 0x40], [0xCB, 0x41], [0xCB, 0x42], [0xCB, 0x43], [0xCB, 0x44], [0xCB, 0x45], [0xCB, 0x46], [0xCB, 0x47]]
    [.bit0B, .bit0C, .bit0D, .bit0E, .bit0H, .bit0L, .bit0AtHL, .bit0A] = true := by decide
theorem test_decode_cb48 : decodesTo [[0xCB, 0x48], [0xCB, 0x49], [0xCB, 0x4A], [0xCB, 0x4B], [0xCB, 0x4C], [0xCB, 0x4D], [0xCB, 0x4E], [0xCB, 0x4F]]
    [.bit1B, .bit1C, .bit1D, .bit1E, .bit1H, .bit1L, .bit1AtHL, .bit1A] = true := by decide
theorem test_decode_cb50 : decodesTo [[0xCB, 0x50], [0xCB, 0x51], [0xCB, 0x52], [0xCB, 0x53], [0xCB, 0x54], [0xCB, 0x55], [0xCB, 0x56], [0xCB, 0x57]]
    [.bit2B, .bit2C, .bit2D, .bit2E, .bit2H, .bit2L, .bit2AtHL, .bit2A] = true := by decide
theorem test_decode_cb58 : decodesTo [[0xCB, 0x58], [0xCB, 0x59], [0xCB, 0x5A], [0xCB, 0x5B], [0xCB, 0x5C], [0xCB, 0x5D], [0xCB, 0x5E], [0xCB, 0x5F]]
    [.bit3B, .bit3C, .bit3D, .bit3E, .bit3H, .bit3L, .bit3AtHL, .bit3A] = true := by decide
theorem test_decode_cb60 : decodesTo [[0xCB, 0x60], [0xCB, 0x61], [0xCB, 0x62], [0xCB, 0x63], [0xCB, 0x64], [0xCB, 0x65], [0xCB, 0x66], [0xCB, 0x67]]
    [.bit4B, .bit4C, .bit4D, .bit4E, .bit4H, .bit4L, .bit4AtHL, .bit4A] = true := by decide
theorem test_decode_cb68 : decodesTo [[0xCB, 0x68], [0xCB, 0x69], [0xCB, 0x6A], [0xCB, 0x6B], [0xCB, 0x6C], [0xCB, 0x6D], [0xCB, 0x6E], [0xCB, 0x6F]]
    [.bit5B, .bit5C, .bit5D, .bit5E, .bit5H, .bit5L, .bit5AtHL, .bit5A] = true := by decide
theorem test_decode_cb70 : decodesTo [[0xCB, 0x70], [0xCB, 0x71], [0xCB, 0x72], [0xCB, 0x73], [0xCB, 0x74], [0xCB, 0x75], [0xCB, 0x76], [0xCB, 0x77]]
    [.bit6B, .bit6C, .bit6D, .bit6E, .bit6H, .bit6L, .bit6AtHL, .bit6A] = true := by decide
theorem test_decode_cb78 : decodesTo [[0xCB, 0x78], [0xCB, 0x79], [0xCB, 0x7A], [0xCB, 0x7B], [0xCB, 0x7C], [0xCB, 0x7D], [0xCB, 0x7E], [0xCB, 0x7F]]
    [.bit7B, .bit7C, .bit7D, .bit7E, .bit7H, .bit7L, .bit7AtHL, .bit7A] = true := by decide
theorem test_decode_cb80 : decodesTo [[0xCB, 0x80], [0xCB, 0x81], [0xCB, 0x82], [0xCB, 0x83], [0xCB, 0x84], [0xCB, 0x85], [0xCB, 0x86], [0xCB, 0x87]]
    [.res0B, .res0C, .res0D, .res0E, .res0H, .res0L, .res0AtHL, .res0A] = true := by decide
theorem test_decode_cb88 : decodesTo [[0xCB, 0x88], [0xCB, 0x89], [0xCB, 0x8A], [0xCB, 0x8B], [0xCB, 0x8C], [0xCB, 0x8D], [0xCB, 0x8E], [0xCB, 0x8F]]
    [.res1B, .res1C, .res1D, .res1E, .res1H, .res1L, .res1AtHL, .res1A] = true := by decide
theorem test_decode_cb90 : decodesTo [[0xCB, 0x90], [0xCB, 0x91], [0xCB, 0x92], [0xCB, 0x93], [0xCB, 0x94], [0xCB, 0x95], [0xCB, 0x96], [0xCB, 0x97]]
    [.res2B, .res2C, .res2D, .res2E, .res2H, .res2L, .res2AtHL, .res2A] = true := by decide
theorem test_decode_cb98 : decodesTo [[0xCB, 0x98], [0xCB, 0x99], [0xCB, 0x9A], [0xCB, 0x9B], [0xCB, 0x9C], [0xCB, 0x9D], [0xCB, 0x9E], [0xCB, 0x9F]]
    [.res3B, .res3C, .res3D, .res3E, .res3H, .res3L, .res3AtHL, .res3A] = true := by decide
theorem test_decode_cbA0 : decodesTo [[0xCB, 0xA0], [0xCB, 0xA1], [0xCB, 0xA2], [0xCB, 0xA3], [0xCB, 0xA4], [0xCB, 0xA5], [0xCB, 0xA6], [0xCB, 0xA7]]
    [.res4B, .res4C, .res4D, .res4E, .res4H, .res4L, .res4AtHL, .res4A] = true := by decide
theorem test_decode_cbA8 : decodesTo [[0xCB, 0xA8], [0xCB, 0xA9], [0xCB, 0xAA], [0xCB, 0xAB], [0xCB, 0xAC], [0xCB, 0xAD], [0xCB, 0xAE], [0xCB, 0xAF]]
    [.res5B, .res5C, .res5D, .res5E, .res5H, .res5L, .res5AtHL, .res5A] = true := by decide
theorem test_decode_cbB0 : decodesTo [[0xCB, 0xB0], [0xCB, 0xB1], [0xCB, 0xB2], [0xCB, 0xB3], [0xCB, 0xB4], [0xCB, 0xB5], [0xCB, 0xB6], [0xCB, 0xB7]]
    [.res6B, .res6C, .res6D, .res6E, .res6H, .res6L, .res6AtHL, .res6A] = true := by decide
theorem test_decode_cbB8 : decodesTo [[0xCB, 0xB8], [0xCB, 0xB9], [0xCB, 0xBA], [0xCB, 0xBB], [0xCB, 0xBC], [0xCB, 0xBD], [0xCB, 0xBE], [0xCB, 0xBF]]
    [.res7B, .res7C, .res7D, .res7E, .res7H, .res7L, .res7AtHL, .res7A] = true := by decide
theorem test_decode_cbC0 : decodesTo [[0xCB, 0xC0], [0xCB, 0xC1], [0xCB, 0xC2], [0xCB, 0xC3], [0xCB, 0xC4], [0xCB, 0xC5], [0xCB, 0xC6], [0xCB, 0xC7]]
    [.set0B, .set0C, .set0D, .set0E, .set0H, .set0L, .set0AtHL, .set0A] = true := by decide
theorem test_decode_cbC8 : decodesTo [[0xCB, 0xC8], [0xCB, 0xC9], [0xCB, 0xCA], [0xCB, 0xCB], [0xCB, 0xCC], [0xCB, 0xCD], [0xCB, 0xCE], [0xCB, 0xCF]]
    [.set1B, .set1C, .set1D, .set1E, .set1H, .set1L, .set1AtHL, .set1A] = true := by decide
theorem test_decode_cbD0 : decodesTo [[0xCB, 0xD0], [0xCB, 0xD1], [0xCB, 0xD2], [0xCB, 0xD3], [0xCB, 0xD4], [0xCB, 0xD5], [0xCB, 0xD6], [0xCB, 0xD7]]
    [.set2B, .set2C, .set2D, .set2E, .set2H, .set2L, .set2AtHL, .set2A] = true := by decide
theorem test_decode_cbD8 : decodesTo [[0xCB, 0xD8], [0xCB, 0xD9], [0xCB, 0xDA], [0xCB, 0xDB], [0xCB, 0xDC], [0xCB, 0xDD], [0xCB, 0xDE], [0xCB, 0xDF]]
    [.set3B, .set3C, .set3D, .set3E, .set3H, .set3L, .set3AtHL, .set3A] = true := by decide
theorem test_decode_cbE0 : decodesTo [[0xCB, 0xE0], [0xCB, 0xE1], [0xCB, 0xE2], [0xCB, 0xE3], [0xCB, 0xE4], [0xCB, 0xE5], [0xCB, 0xE6], [0xCB, 0xE7]]
    [.set4B, .set4C, .set4D, .set4E, .set4H, .set4L, .set4AtHL, .set4A] = true := by decide
theorem test_decode_cbE8 : decodesTo [[0xCB, 0xE8], [0xCB, 0xE9], [0xCB, 0xEA], [0xCB, 0xEB], [0xCB, 0xEC], [0xCB, 0xED], [0xCB, 0xEE], [0xCB, 0xEF]]
    [.set5B, .set5C, .set5D, .set5E, .set5H, .set5L, .set5AtHL, .set5A] = true := by decide
theorem test_decode_cbF0 : decodesTo [[0xCB, 0xF0], [0xCB, 0xF1], [0xCB, 0xF2], [0xCB, 0xF3], [0xCB, 0xF4], [0xCB, 0xF5], [0xCB, 0xF6], [0xCB, 0xF7]]
    [.set6B, .set6C, .set6D, .set6E, .set6H, .set6L, .set6AtHL, .set6A] = true := by decide
theorem test_decode_cbF8 : decodesTo [[0xCB, 0xF8], [0xCB, 0xF9], [0xCB, 0xFA], [0xCB, 0xFB], [0xCB, 0xFC], [0xCB, 0xFD], [0xCB, 0xFE], [0xCB, 0xFF]]
    [.set7B, .set7C, .set7D, .set7E, .set7H, .set7L, .set7AtHL, .set7A] = true := by decide

theorem test_decode_truncated : decode [0xCB] = .error (.truncated 0xCB) ∧ decode [0xFA, 0x00] = .error (.truncated 0xFA) ∧
    decode [] = .error .noBytes := ⟨rfl, rfl, rfl⟩

/-- R149 numbers a 0xCB row with the prefix in the high byte; a word with the prefix in the low byte reads the same. -/
theorem test_tableWord : decodeTableWord 16 0xCB37 = some .swapA ∧ decodeTableWord 16 0x37CB = some .swapA ∧
    decodeTableWord 8 0x47 = some .ldBA ∧ decodeTableWord 24 0x1234C3 = some (.jp 0x1234) := ⟨rfl, rfl, rfl, rfl⟩

theorem test_encode_order : encode (.jp 0x1234) = [0xC3, 0x34, 0x12] := rfl

/-! WellFormed: the one check refuses each unrecognised byte and accepts instructions. -/

theorem test_ill_formed_refused :
    ([.unrecognisedD3, .unrecognisedDB, .unrecognisedDD, .unrecognisedE3, .unrecognisedE4, .unrecognisedEB,
      .unrecognisedEC, .unrecognisedED, .unrecognisedF4, .unrecognisedFC, .unrecognisedFD] : List Instr).any
      Instr.wellFormed = false := rfl
theorem test_well_formed_accepted : ([.nop, .halt, .jp 0xFFFF, .ldBN 0xFF, .rst38] : List Instr).all Instr.wellFormed = true := rfl

/-! Single steps. The small state has zero registers, SP 0xFFFE and the bytes in work RAM at 0xC000, where PC stands. -/

/-- A small state with code bytes where the next step fetches. -/
def small (code : List Byte) : State :=
  { State.reset with
    cpu := { a := 0, f := 0, b := 0, c := 0, d := 0, e := 0, h := 0, l := 0, sp := 0xFFFE, pc := 0xC000,
             ime := false, halted := false, cyc := 0, fault := none }
    mem := code.zipIdx.foldl (fun m bk => m.write (0xC000 + bk.2) bk.1) [] }

/-- One view of the state that a step from `s` leads to, if it leads to one. -/
def after {α : Type} (s : State) (view : State → α) : Option α :=
  match step s with
  | .next t => some (view t)
  | .fault _ => none
  | .refused _ => none

/-- The state with A and F set. -/
def withAF (a f : Byte) (s : State) : State := { s with cpu := { s.cpu with a := a, f := f } }

/-- The view (A, F, PC, cycles). -/
def afView (t : State) : Byte × Byte × Word × Nat := (t.cpu.a, t.cpu.f, t.cpu.pc, t.cpu.cyc)

-- S1
theorem test_add : after (withAF 0x3C 0x00 (small [0xC6, 0xC6])) afView = some (0x02, 0x30, 0xC002, 8) := by decide
-- R222, corner case
theorem test_adc : after (withAF 0x00 0x10 (small [0xCE, 0xFF])) afView = some (0x00, 0xB0, 0xC002, 8) := by decide
-- R224, corner cases
theorem test_sbc : after (withAF 0x00 0x10 (small [0xDE, 0xFF])) afView = some (0x00, 0xF0, 0xC002, 8) := by decide
theorem test_sbc_half : after (withAF 0x10 0x10 (small [0xDE, 0x0F])) afView = some (0x00, 0xE0, 0xC002, 8) := by decide
-- R228, example
theorem test_cp : after (withAF 0x3C 0x00 (small [0xFE, 0x2F])) afView = some (0x3C, 0x60, 0xC002, 8) := by decide
-- R231, example
theorem test_inc : after ((withAF 0 0x10 (small [0x04])).setReg8 .b 0x0F) (fun t => (t.cpu.b, t.cpu.f)) =
    some (0x10, 0x30) := by decide
-- R232, example
theorem test_inc_at_hl : after (({ small [0x34] with mem := (small [0x34]).mem.write 0xC100 0xFF }).setPair .hl 0xC100)
    (fun t => (t.mem.read 0xC100, t.cpu.f, t.cpu.cyc)) = some (0x00, 0xA0, 12) := by decide
-- V9, R88: a store through the echo range lands in work RAM
theorem test_store_echo : after ((withAF 0x11 0 (small [0x77])).setPair .hl 0xFDFF) (fun t => t.mem.read 0xDDFF) =
    some 0x11 := by decide
-- V16: HL wraps
theorem test_store_hl_inc_wraps : after ((withAF 0x1F 0 (small [0x22])).setPair .hl 0xFFFF)
    (fun t => (t.pair .hl, t.ieByte)) = some (0x0000, 0x1F) := by decide
-- S2, V127: a jump to itself
theorem test_jr : after (small [0x18, 0xFE]) (fun t => (t.cpu.pc, t.cpu.cyc)) = some (0xC000, 12) := by decide
-- R335: the return address on the stack, low byte at the lower address
theorem test_call : after ((small [0xCD, 0x34, 0x12]).setSp 0xD000)
    (fun t => (t.cpu.pc, t.cpu.sp, t.mem.read 0xCFFE, t.mem.read 0xCFFF, t.cpu.cyc)) =
    some (0x1234, 0xCFFE, 0x03, 0xC0, 24) := by decide
-- R207: POP AF drops the low nibble (S4: BC = 0x12FF)
theorem test_pop_af : after (({ small [0xF1] with mem := ((small [0xF1]).mem.write 0xD000 0xFF).write 0xD001 0x12 }).setSp 0xD000)
    (fun t => (t.af, t.cpu.sp)) = some (0x12F0, 0xD002) := by decide
-- R273: ADD SP,e with a negative displacement
theorem test_add_sp : after ((small [0xE8, 0xFF]).setSp 0x0001) (fun t => (t.cpu.sp, t.cpu.f, t.cpu.cyc)) =
    some (0x0000, 0x30, 16) := by decide
-- R293: BIT keeps C and writes no operand
theorem test_bit : after ((withAF 0 0x10 (small [0xCB, 0x7C])).setReg8 .h 0x7F) (fun t => (t.cpu.f, t.cpu.h, t.cpu.cyc)) =
    some (0xB0, 0x7F, 8) := by decide
-- R292: SRL shifts a zero in
theorem test_srl : after ((small [0xCB, 0x38]).setReg8 .b 0x81) (fun t => (t.cpu.b, t.cpu.f)) = some (0x40, 0x10) := by decide
-- R355, R400: the fatal error
theorem test_fatal : after (small [0xDD]) (fun t => (t.cpu.fault, t.cpu.pc, t.cpu.cyc)) =
    some (some (0xDD, 0xC000), 0xC001, 4) := by decide
-- R407: a request enabled before an EI is entered at the end of the EI's own step (R542)
theorem test_interrupt : after ({ small [0xFB] with mem := ((small [0xFB]).mem.write 0xFF0F 0x05).write 0xFFFF 0x04 })
    (fun t => (t.cpu.pc, t.cpu.sp, t.cpu.ime, t.ifByte, t.cpu.cyc)) = some (0x0050, 0xFFFC, false, 0x01, 20) := by decide
-- R531: the reset state with an image placed runs it at 0x0100
theorem test_withFetchWord : after (State.reset.withFetchWord 24 0x1234C3) (fun t => (t.cpu.pc, t.cpu.cyc)) =
    some (0x1234, 16) := by decide
-- R450: a DIV write whose clearing drops the watched bit counts TIMA
theorem test_div_glitch : (routeWrite 0xFF04 0x5A { small [] with
      timer := { State.reset.timer with counter := 0x0008, tac := 0x05, prevSig := true } }).timer.tima = 0x01 := by decide
-- R501: the day counter wraps and the overflow flag is set
theorem test_rtc_wrap : Rtc.tickSecond ⟨59, 59, 23, 0xFF, 0x01⟩ = ⟨0, 0, 0, 0x00, 0x80⟩ := by decide

/-! Witnesses: for each obligation with hypotheses, in the order of the statements, concrete values that meet them together;
for one with several clauses, values of each clause, at the ends of its ranges. -/

/-- A timer cartridge in the small state, RAM and RTC enabled, with the enable, mapping and select given. -/
def rtcCart (enabled mapped : Bool) : State :=
  { small [] with
    params := { State.reset.params with cartKind := .mbc3Timer }
    cart := { State.reset.cart with ramEnabled := enabled, rtcMapped := mapped, rtcSel := 4, ramBank := 3 } }

/-- The small state with a cartridge kind. -/
def withKind (kind : CartKind) : State := { small [] with params := { State.reset.params with cartKind := kind } }

/-- The small state with open collaborators. -/
def withCollaborators : State := { small [] with params := { State.reset.params with ext := .collaborators } }

/-- A timer cartridge whose RTC follows the wall clock. -/
def wallclockCart : State := { rtcCart true true with params := { (rtcCart true true).params with rtcMode := .wallclock } }

/-- The small state with IF, IE and IME. -/
def withRequests (ifv iev : Byte) (ime : Bool) : State :=
  { small [] with mem := Memory.write (Memory.write [] 0xFF0F ifv) 0xFFFF iev, cpu := { (small []).cpu with ime := ime } }

/-- The timer one cycle before an edge that overflows TIMA. -/
def nearOverflow : State :=
  { small [] with timer := { counter := 0x000F, tima := 0xFF, tma := 0x42, tac := 0x05, prevSig := true, reloadDelay := 0 } }

theorem small_inv : (small [0x3C]).Inv where
  f_low := rfl
  cyc_aligned := rfl
  fault_pc := nofun
  mem_wf := rfl
  mem_range := rfl
  ram_wf := rfl
  ram_range := rfl
  rom_wf := rfl
  bank := rfl
  delay := Nat.zero_le _
  edge := rfl
  live_masked := rfl
  latched_masked := rfl
  rtc_mapped := nofun
  acc := fun h => h

theorem rtcCart_inv : (rtcCart true true).Inv where
  f_low := rfl
  cyc_aligned := rfl
  fault_pc := nofun
  mem_wf := rfl
  mem_range := rfl
  ram_wf := rfl
  ram_range := rfl
  rom_wf := rfl
  bank := rfl
  delay := Nat.zero_le _
  edge := rfl
  live_masked := rfl
  latched_masked := rfl
  rtc_mapped := fun _ => rfl
  acc := fun h => h

theorem witness_EncodeDecodeAgree : decode [0x3E, 0x3C, 0x00] = .ok (.ldAN 0x3C, [0x00]) := rfl
theorem witness_FirstByteFixesLength : lengthOf 0xCB ≤ [0x37#8].length + 1 ∧ lengthOf 0x00 ≤ ([] : List Byte).length + 1 ∧
    lengthOf 0xC3 ≤ [0x50#8, 0x01#8].length + 1 ∧ [0x50#8].length + 1 < lengthOf 0xC3 ∧
    ([] : List Byte).length + 1 < lengthOf 0xCB := by decide
theorem witness_StepRunsDecodedInstruction : (small [0x3C]).cpu.fault = none ∧ (small [0x3C]).cpu.halted = false ∧
    decode (fetchedBytes (betweenSteps (small [0x3C]))).1 = .ok (.incA, []) ∧ (small [0x3C]).params.ext = .stub ∧
    (raiseFatal 0xDD 0xC000 (small [])).cpu.fault ≠ none := ⟨rfl, rfl, rfl, rfl, nofun⟩
theorem witness_FatalErrorLatches : (small [0xFD]).cpu.fault = none ∧ (small [0xFD]).cpu.halted = false ∧
    (fetch8 (betweenSteps (small [0xFD]))).1 ∈ unrecognisedBytes := by decide
theorem witness_StuckAfterFatalError : (raiseFatal 0xDD 0xC000 (small [])).cpu.fault = some (0xDD, 0xC000) ∧
    (small [0x3C]).cpu.fault = none ∧ ∃ t, step (small [0x3C]) = .next t := ⟨rfl, rfl, _, rfl⟩
theorem witness_IdleStepWhileHalted : ((small []).setHalted true).cpu.fault = none ∧
    ((small []).setHalted true).cpu.halted = true := ⟨rfl, rfl⟩
theorem witness_EveryInstructionCompletes : Instr.incA.wellFormed = true ∧ Instr.unrecognisedDD.wellFormed = false := ⟨rfl, rfl⟩
theorem witness_StepKeepsInvariant : (small [0x3C]).Inv ∧ ∃ t, step (small [0x3C]) = .next t := ⟨small_inv, _, rfl⟩
/-- Reset values and memories other than the defaults, for a timer cartridge. -/
def otherReset : ResetValues :=
  { ResetValues.defaults with
    f := 0x8F, cyc := 4, ifByte := 0xE1, rtcMapped := true, rtcSel := 4, rtcAcc := 131071, rtcLive := ⟨0x3F, 0x3F, 0x1F, 0xFF, 0xC1⟩
    timer := { ResetValues.defaults.timer with counter := 0xABCC, tac := 0x05, prevSig := true, reloadDelay := 4 } }

theorem defaults_legal : ResetValues.defaults.Legal Params.defaults :=
  ⟨rfl, Nat.zero_le _, rfl, rfl, rfl, nofun, fun h => h⟩
theorem otherReset_legal : otherReset.Legal (rtcCart true true).params :=
  ⟨rfl, Nat.le_refl _, rfl, rfl, rfl, fun _ => rfl, fun _ => by decide⟩
/-- The bytes at both ends of the backing array and of cartridge RAM. -/
theorem initMem_legal : InitMem.zero.Legal ∧ InitMem.Legal ⟨[(0x8000, 0x12), (0xFFFE, 0xFF)], [(0, 0xAA), (0x7FFF, 0x55)]⟩ :=
  ⟨⟨rfl, rfl, rfl, rfl⟩, ⟨rfl, rfl, rfl, rfl⟩⟩
theorem test_resetWith : (State.resetWith (rtcCart true true).params otherReset ⟨[(0x8000, 0x12)], []⟩).mem =
    [(0x8000, 0x12), (0xFF0F, 0xE1)] ∧
    (State.resetWith (rtcCart true true).params otherReset InitMem.zero).cpu.f = 0x80 := by decide
theorem witness_ResetMeetsInvariant : InitMem.zero.mem.wf = true := rfl
theorem witness_LaunchMeetsInvariant : (rtcCart true true).Inv ∧ ResetValues.defaults.Legal Params.defaults ∧
    otherReset.Legal (rtcCart true true).params ∧ InitMem.zero.Legal ∧ (rtcCart true true).params.rom.wf = true ∧
    Params.defaults = ⟨Rom.ofBytes [], if ([] : List Byte).length < 0x0148 then .romOnly else kindOfCode (([] : List Byte).getD 0x0147 0),
      .system, Config.rtcCyclesPerTick, .stub⟩ :=
  ⟨rtcCart_inv, defaults_legal, otherReset_legal, initMem_legal.1, rfl, rfl⟩
theorem witness_SaveBlockRoundTrip : (rtcCart true true).Inv ∧ hasRam (rtcCart true true).params.cartKind = true ∧
    (rtcCart true true).params.cartKind = .mbc3Timer ∧ [0x00#8].length ≠ 32768 ∧ [0x00#8].length ≠ 32816 :=
  ⟨rtcCart_inv, rfl, rfl, by decide, by decide⟩
theorem witness_RomNeverChanges : (small [0x3C]).params.cartKind = .romOnly ∧ (0x0000#16).toNat < 0x8000 ∧
    (0x7FFF#16).toNat < 0x8000 ∧ ∃ t, step (small [0x3C]) = .next t := ⟨rfl, by decide, by decide, _, rfl⟩
theorem witness_FlagLowNibbleStaysZero : (small [0xF1]).cpu.f &&& 0x0F = 0 ∧ (∃ t, exec .popAF (small [0xF1]) = .next t) ∧
    ∃ t, step (small [0xF1]) = .next t := ⟨rfl, ⟨_, rfl⟩, ⟨_, rfl⟩⟩
theorem witness_StepCostBounds : ∃ t, step (small [0xCD]) = .next t := ⟨_, rfl⟩
theorem witness_EchoIsWorkRam : 0xE000 ≤ (0xE000#16).toNat ∧ (0xFDFF#16).toNat ≤ 0xFDFF ∧ 0xDE00 ≤ (0xDE00#16).toNat ∧
    (0xDFFF#16).toNat ≤ 0xDFFF := by decide
theorem witness_ReadAfterWrite : (small []).mem.wf = true ∧ backing 0xE000 (small []) = .mem 0xC000 ∧
    backing 0xFFFF (small []) ≠ .mem 0xC000 ∧ (rtcCart true false).cart.ram.wf = true ∧
    backing 0xBFFF (rtcCart true false) = .ram 0x7FFF ∧ backing 0xA000 (rtcCart true false) ≠ .ram 0x7FFF := by decide
theorem witness_AddressMap : (Rom.ofBytes [0x12, 0x34]).byte 0x0001 = some 0x34 ∧ (0x0001#16).toNat ≤ 0x3FFF ∧
    ({ size := 0x8000, cells := [] } : Rom).byte (1 * 0x4000 + ((0x7FFF#16).toNat - 0x4000)) = some 0x00 ∧
    hasRam (small []).params.cartKind = false ∧ (0xA000#16).toNat = 0xA000 ∧ (0xBFFF#16).toNat = 0xBFFF ∧
    (0xFFFF#16).toNat ≥ 0xFF4C ∧ (0x8000#16).toNat = 0x8000 ∧ (0xFF4B#16).toNat ≤ 0xFF4B ∧
    (small []).params.ext = .stub ∧ withCollaborators.params.ext = .collaborators := by decide
theorem witness_TimePassingFrame : (small []).mem.wf = true ∧ (small []).params.ext = .stub ∧
    withCollaborators.params.ext ≠ .stub ∧ withCollaborators.mem.wf = true ∧
    (withRequests 0x10 0 false).mem.wf = true ∧ (withRequests 0x10 0 false).ifByte.getLsbD 4 = true := by decide
theorem witness_TickIsAdditive : (small []).mem.wf = true ∧ (small []).params.ext = .stub ∧
    (small []).params.rtcMode = .system ∧ 0 < (small []).params.rtcCyclesPerTick := by decide
theorem witness_TimaCountsFallingEdges :
    nearOverflow.timer.prevSig = nearOverflow.timer.signal ∧ nearOverflow.timer.reloadDelay = 0 ∧
    nearOverflow.timer.tac.getLsbD 2 = true ∧
    { nearOverflow.timer with tima := 0xFE }.tima.toNat + (nearOverflow.timer.counter.toNat % 16 + 1) / 16 ≤ 255 ∧
    State.reset.timer.prevSig = State.reset.timer.signal ∧ State.reset.timer.tac.getLsbD 2 = false := by decide
theorem witness_TimaOverflowReloads : nearOverflow.mem.wf = true ∧ nearOverflow.params.ext = .stub ∧
    nearOverflow.timer.tima = 0xFF ∧ nearOverflow.timer.reloadDelay = 0 ∧ nearOverflow.timer.prevSig = true ∧
    nearOverflow.timer.tac.getLsbD 2 = true ∧
    nearOverflow.timer.counter.getLsbD (Timer.selBit nearOverflow.timer.tac) = true ∧
    (nearOverflow.timer.counter + 1).getLsbD (Timer.selBit nearOverflow.timer.tac) = false := by decide
theorem witness_Mbc1Commands : (withKind .mbc1).params.cartKind = .mbc1 ∧ (0x1FFF#16).toNat ≤ 0x1FFF ∧
    0x6000 ≤ (0x6000#16).toNat ∧ (0x7FFF#16).toNat ≤ 0x7FFF ∧ 0x2000 ≤ (0x2000#16).toNat ∧ (0x3FFF#16).toNat ≤ 0x3FFF ∧
    0x4000 ≤ (0x4000#16).toNat ∧ (0x5FFF#16).toNat ≤ 0x5FFF := by decide
theorem witness_Mbc3Commands : (withKind .mbc3).params.cartKind = .mbc3 ∧
    (withKind .mbc3Timer).params.cartKind = .mbc3Timer ∧ (0x03#8).toNat = (3 : Fin 4).val ∧
    (0x0C#8).toNat = 0x08 + (4 : Fin 5).val ∧ 4 ≤ (0x04#8).toNat ∧ (0x07#8).toNat ≤ 7 ∧ 0x0D ≤ (0x0D#8).toNat ∧
    (0x1FFF#16).toNat ≤ 0x1FFF ∧ 0x2000 ≤ (0x2000#16).toNat ∧ (0x3FFF#16).toNat ≤ 0x3FFF ∧ 0x4000 ≤ (0x4000#16).toNat ∧
    (0x5FFF#16).toNat ≤ 0x5FFF ∧ 0x6000 ≤ (0x6000#16).toNat ∧ (0x7FFF#16).toNat ≤ 0x7FFF := by decide
theorem witness_RtcLatchIsAtomic : (rtcCart true true).params.cartKind = .mbc3Timer ∧
    (rtcCart true true).cart.latchArmed = false ∧ (routeWrite 0x6000 0 (rtcCart true true)).cart.latchArmed = true ∧
    0x6000 ≤ (0x6000#16).toNat ∧ (0x7FFF#16).toNat ≤ 0x7FFF ∧ (0xFF#8) ≠ 0 ∧ (0xFF#8) ≠ 1 := by decide
theorem witness_WindowReads : hasRam (rtcCart true true).params.cartKind = true ∧ 0xA000 ≤ (0xA000#16).toNat ∧
    (0xBFFF#16).toNat ≤ 0xBFFF ∧ (rtcCart false true).cart.ramEnabled = false ∧ (rtcCart true true).cart.ramEnabled = true ∧
    (rtcCart true true).cart.rtcMapped = true ∧ (rtcCart true false).cart.rtcMapped = false := by decide
theorem witness_WindowWrites : hasRam (withKind .mbc3).params.cartKind = true ∧ (withKind .mbc3).cart.ramEnabled = false ∧
    (rtcCart true true).cart.ramEnabled = true ∧ (rtcCart true true).cart.rtcMapped = true ∧
    (rtcCart true false).cart.rtcMapped = false := by decide
theorem witness_RtcSecondCounts : (Rtc.inRange ⟨59, 59, 23, 0xFF, 0x01⟩) ∧ 60 ≤ (0x3F#8).toNat + 1 ∧
    (0x3A#8).toNat + 1 < 60 := ⟨⟨by decide, by decide, by decide⟩, by decide, by decide⟩
theorem witness_RtcRunsOnCycles : (withKind .mbc3).params.cartKind ≠ .mbc3Timer ∧
    (rtcCart true true).params.cartKind = .mbc3Timer ∧ (rtcCart true true).cart.rtcLive.halted = false ∧
    (rtcCart true true).params.rtcMode = .system ∧ 0 < (rtcCart true true).params.rtcCyclesPerTick ∧
    Rtc.halted ⟨0, 0, 0, 0, 0x40⟩ = true ∧ wallclockCart.params.cartKind = .mbc3Timer ∧
    wallclockCart.cart.rtcLive.halted = false ∧ wallclockCart.params.rtcMode = .wallclock := by decide
/-- A stack in work RAM, at both ends of the cartridge RAM window, around the top of memory, and upon IF. -/
theorem witness_InterruptEntrySavesPc : (4 < 5) ∧ ((small []).setSp 0xD000).mem.wf = true ∧
    0xCFFE = ((small []).setSp 0xD000).cpu.sp - 2 ∧ 0xCFFF = ((small []).setSp 0xD000).cpu.sp - 1 ∧
    backing 0xCFFE ((small []).setSp 0xD000) = .mem 0xCFFE ∧ backing 0xCFFF ((small []).setSp 0xD000) = .mem 0xCFFF ∧
    backing 0xCFFE ((small []).setSp 0xD000) ≠ .mem 0xC000 ∧ backing 0xCFFF ((small []).setSp 0xD000) ≠ .mem 0xC000 ∧
    (rtcCart true false).mem.wf = true ∧ (rtcCart true false).cart.ram.wf = true ∧
    0xA000 = ((rtcCart true false).setSp 0xA002).cpu.sp - 2 ∧ backing 0xA000 (rtcCart true false) = .ram 0x6000 ∧
    backing 0xA001 (rtcCart true false) = .ram 0x6001 ∧ backing 0xA001 (rtcCart true false) ≠ .ram 0x6000 ∧
    0xBFFF = ((rtcCart true false).setSp 0xC001).cpu.sp - 2 ∧ backing 0xBFFF (rtcCart true false) = .ram 0x7FFF ∧
    backing 0xC000 (rtcCart true false) = .mem 0xC000 ∧
    0xFFFF = ((small []).setSp 0x0001).cpu.sp - 2 ∧ 0x0000 = ((small []).setSp 0x0001).cpu.sp - 1 ∧
    backing 0xFFFF (small []) = .mem 0xFFFF ∧
    0xFF0F = ((small []).setSp 0xFF11).cpu.sp - 2 ∧ 0xFF0F = ((small []).setSp 0xFF10).cpu.sp - 1 ∧
    (small []).params.ext = .stub ∧ withCollaborators.params.ext = .collaborators ∧ withCollaborators.mem.wf = true ∧
    (withRequests 0x11 0 false).ifByte.getLsbD 4 = true ∧ (withRequests 0x11 0 false).ifByte.getLsbD 0 = true := by decide
theorem witness_LowestEnabledRequestIsEntered : (withRequests 0x17 0x1C true).cpu.ime = true ∧
    (withRequests 0x17 0x1C true).ifByte.getLsbD 2 = true ∧ (withRequests 0x17 0x1C true).ieByte.getLsbD 2 = true ∧
    (∀ j, j < 2 → (withRequests 0x17 0x1C true).ifByte.getLsbD j = false ∨
      (withRequests 0x17 0x1C true).ieByte.getLsbD j = false) := by decide
theorem witness_RequestWakesWithoutEntry : (withRequests 0x10 0x0F true).ifByte.getLsbD 4 = true ∧
    (∀ j, j < 5 → (withRequests 0x10 0x0F true).ifByte.getLsbD j = false ∨
      (withRequests 0x10 0x0F true).ieByte.getLsbD j = false) ∧ (withRequests 0x10 0x10 false).cpu.ime = false ∧
    (∀ j, j < 5 → (withRequests 0xE0 0xFF true).ifByte.getLsbD j = false) ∧
    (withRequests 0x10 0x10 true).cpu.ime = true ∧ (withRequests 0x10 0x10 true).ieByte.getLsbD 4 = true := by decide
/-- AddAndAdc, SubSbcAndCp, AndXorOr, IncAndDec8, RotatesAndShifts and BitResSet: both operand forms answer. -/
theorem witness_operands : (∃ v s1, readLoc8 (.reg .b) (small []) = (v, s1)) ∧ (∃ v s1, readLoc8 .atHL (small []) = (v, s1)) ∧
    ∃ c, c = (withAF 0 0x10 (small [])).flagC.toNat := ⟨⟨_, _, rfl⟩, ⟨_, _, rfl⟩, ⟨_, rfl⟩⟩
theorem witness_DaaAddsBcd : 99 < 100 ∧ (withAF 0x99 0x10 (small [])).cpu.a = bcd 99 := by decide
theorem witness_CallsAndReturns : (∃ v u, memRead2 (small []).cpu.sp (small []) = (v, u)) ∧
    ∃ v u, memRead2 (small []).cpu.sp (tick 4 (small [])) = (v, u) := ⟨⟨_, _, rfl⟩, ⟨_, _, rfl⟩⟩
theorem witness_SystemInstructions : encode .unrecognisedD3 = [0xD3] ∧ 0xD3#8 ∈ unrecognisedBytes := by decide
theorem witness_RegisterAndFlagFrame : (∃ t, exec .incB (small []) = .next t) ∧ Reg8.a ∉ regsWritten .incB ∧
    writesSp .incB = false ∧ (small []).cpu.f &&& 0x0F = 0 ∧ Instr.incB.wellFormed = true :=
  ⟨⟨_, rfl⟩, by decide, rfl, rfl, rfl⟩
theorem witness_StoreFrame : (∃ t, exec .pushBC ((small []).setSp 0xD000) = .next t) ∧
    storeAddrs .pushBC ((small []).setSp 0xD000) = [0xCFFE, 0xCFFF] ∧ backing 0xCFFE (small []) ≠ .mem 0xD000 ∧
    backing 0xCFFF (small []) ≠ .mem 0xD000 ∧ backing 0xCFFE (small []) ≠ .ram 0 ∧
    (small []).mem.wf = true ∧ backing 0xCFFE (small []) ≠ .mem 0xFF0F ∧ 0x8000 ≤ (0xCFFE#16).toNat ∧
    (0xFF03#16).toNat < 0xFF04 ∧ 0xFF08 ≤ (0xFF08#16).toNat :=
  ⟨⟨_, rfl⟩, rfl, by decide, by decide, by decide, rfl, by decide, by decide, by decide, by decide⟩
theorem witness_StorelessFrame : (small []).mem.wf = true ∧ (∃ t, exec .bit7AtHL (small []) = .next t) ∧
    storeAddrs .bit7AtHL (small []) = [] := ⟨rfl, ⟨_, rfl⟩, rfl⟩

end Sys2Proof.Tests.Slice0
end

section
/-! SUPPORT. Reset and launch: a byte list as a byte array, the reset state under the invariant, and the save block's restore
(O12, O13). -/

namespace Sys2Proof.Machine

/-! A byte list as a byte array -/

/-- The byte array of a list whose first byte stands at address `lo`: what `Memory.ofBytes` makes of a list's tail. -/
def Memory.ofBytesFrom (lo : Nat) (bytes : List Byte) : Memory :=
  ((bytes.zipIdx lo).map fun bk => (bk.2, bk.1)).filter fun kv => decide (kv.2 ≠ Memory.unlisted)

theorem Memory.ofBytes_eq (bytes : List Byte) : Memory.ofBytes bytes = Memory.ofBytesFrom 0 bytes := rfl

@[simp] theorem Memory.ofBytesFrom_nil (lo : Nat) : Memory.ofBytesFrom lo [] = [] := rfl

theorem Memory.ofBytesFrom_cons (lo : Nat) (b : Byte) (bs : List Byte) : Memory.ofBytesFrom lo (b :: bs) =
    if b = Memory.unlisted then Memory.ofBytesFrom (lo + 1) bs else (lo, b) :: Memory.ofBytesFrom (lo + 1) bs := by
  by_cases h : b = Memory.unlisted <;> simp [Memory.ofBytesFrom, h]

theorem Memory.ofBytesFrom_wfFrom (lo : Nat) (bytes : List Byte) : (Memory.ofBytesFrom lo bytes).wfFrom lo = true := by
  induction bytes generalizing lo with
  | nil => rfl
  | cons b bs ih =>
    rw [Memory.ofBytesFrom_cons]
    split
    · exact Memory.wfFrom_mono (Nat.le_succ lo) (ih (lo + 1))
    · simpa [Memory.wfFrom, ih] using ‹_›

theorem Memory.within_mono {lo lo' hi hi' : Nat} {m : Memory} (hlo : lo' ≤ lo) (hhi : hi ≤ hi')
    (h : m.within lo hi = true) : m.within lo' hi' = true := by
  simp only [Memory.within, List.all_eq_true, Bool.and_eq_true, decide_eq_true_eq] at *
  exact fun kv hkv => ⟨hlo.trans (h kv hkv).1, (h kv hkv).2.trans_le hhi⟩

theorem Memory.ofBytesFrom_within (lo : Nat) (bytes : List Byte) :
    (Memory.ofBytesFrom lo bytes).within lo (lo + bytes.length) = true := by
  induction bytes generalizing lo with
  | nil => rfl
  | cons b bs ih =>
    have tail : (Memory.ofBytesFrom (lo + 1) bs).within lo (lo + (b :: bs).length) = true :=
      Memory.within_mono (Nat.le_succ lo) (by simp; omega) (ih (lo + 1))
    rw [Memory.ofBytesFrom_cons]
    split
    · exact tail
    · simpa [Memory.within] using tail

theorem Memory.ofBytesFrom_read (lo : Nat) (bytes : List Byte) (k : Nat) :
    (Memory.ofBytesFrom lo bytes).read (lo + k) = bytes.getD k Memory.unlisted := by
  induction bytes generalizing lo k with
  | nil => simp
  | cons b bs ih =>
    rw [Memory.ofBytesFrom_cons]
    cases k with
    | zero =>
      split
      · next hb => rw [Memory.read_below (Memory.ofBytesFrom_wfFrom (lo + 1) bs) _ (by omega)]; exact hb.symm
      · simp [Memory.read]
    | succ k =>
      have tail := ih (lo + 1) k
      rw [show lo + 1 + k = lo + (k + 1) by omega] at tail
      split
      · simpa using tail
      · simpa [Memory.read] using tail

/-- A list's bytes make an array in canonical form, -/
theorem Memory.ofBytes_wf (bytes : List Byte) : (Memory.ofBytes bytes).wf = true := Memory.ofBytesFrom_wfFrom 0 bytes

/-- with nothing beyond the list, -/
theorem Memory.ofBytes_within (bytes : List Byte) : (Memory.ofBytes bytes).within 0 bytes.length = true := by
  simpa [Memory.ofBytes_eq] using Memory.ofBytesFrom_within 0 bytes

/-- that reads as the list. -/
theorem Memory.ofBytes_read (bytes : List Byte) (k : Nat) : (Memory.ofBytes bytes).read k = bytes.getD k Memory.unlisted := by
  simpa [Memory.ofBytes_eq] using Memory.ofBytesFrom_read 0 bytes k

/-! The ROM image of a byte list (R44, R472) -/

theorem Rom.ofBytes_wf (bytes : List Byte) : (Rom.ofBytes bytes).wf = true := by
  simp [Rom.wf, Rom.ofBytes, Memory.ofBytes_wf, Memory.ofBytes_within]

theorem Rom.ofBytes_byte (bytes : List Byte) (k : Nat) : (Rom.ofBytes bytes).byte k = bytes[k]? := by
  simp only [Rom.byte, Rom.ofBytes, Memory.ofBytes_read]
  split
  · next hk => simp [hk]
  · next hk => simp [Nat.le_of_not_lt hk]

theorem cartKindOf_ofBytes (bytes : List Byte) : cartKindOf (Rom.ofBytes bytes) =
    if bytes.length < 0x0148 then .romOnly else kindOfCode (bytes.getD 0x0147 0) := by
  simp only [cartKindOf, Rom.ofBytes, Memory.ofBytes_read, Memory.unlisted]

/-! The invariant at reset (R50, R530) -/

/-- Bank 1, which reset selects, is legal on every cartridge (R44). -/
theorem bankLegal_one (kind : CartKind) : bankLegal kind 1 = true := by cases kind <;> decide

theorem State.resetWith_inv {p : Params} {rv : ResetValues} {init : InitMem} (hrom : p.rom.wf = true) (hrv : rv.Legal p)
    (hinit : init.Legal) : (State.resetWith p rv init).Inv where
  f_low := masked_low rv.f
  cyc_aligned := hrv.cyc_aligned
  fault_pc := nofun
  mem_wf := State.resetWith_wf p rv init hinit.mem_wf
  mem_range := State.resetWith_range p rv init hinit.mem_range
  ram_wf := hinit.ram_wf
  ram_range := hinit.ram_range
  rom_wf := hrom
  bank := bankLegal_one p.cartKind
  delay := hrv.delay
  edge := hrv.edge
  live_masked := hrv.live_masked
  latched_masked := hrv.latched_masked
  rtc_mapped := hrv.rtc_mapped
  acc := hrv.acc

theorem ResetValues.legal_defaults : ResetValues.defaults.Legal Params.defaults where
  cyc_aligned := rfl
  delay := Nat.zero_le 4
  edge := rfl
  live_masked := by decide
  latched_masked := by decide
  rtc_mapped := nofun
  acc := id

theorem InitMem.legal_zero : InitMem.zero.Legal := ⟨rfl, rfl, rfl, rfl⟩

theorem State.reset_inv : State.reset.Inv := State.resetWith_inv rfl ResetValues.legal_defaults InitMem.legal_zero

/-- A launch is a reset with the kind of the image's header (R533). -/
theorem State.launch_ofBytes (bytes : List Byte) (mode : RtcMode) (period : Nat) (ext : ExtMode) (rv : ResetValues)
    (init : InitMem) : State.launch (Rom.ofBytes bytes) mode period ext rv init = State.resetWith
      ⟨Rom.ofBytes bytes, if bytes.length < 0x0148 then .romOnly else kindOfCode (bytes.getD 0x0147 0), mode, period, ext⟩
      rv init := by
  rw [State.launch, cartKindOf_ofBytes]

/-! Restoring a save block (R513) -/

theorem rtcFromBlock_get (bytes : List Byte) (at0 : Nat) (i : Fin 5) :
    (rtcFromBlock bytes at0).get i = bytes.getD (at0 + 4 * i.val) 0 &&& Rtc.mask i := by
  fin_cases i <;> rfl

/-- Each restored register is reduced by its mask, whatever the block holds. -/
theorem rtcFromBlock_masked (bytes : List Byte) (at0 : Nat) : (rtcFromBlock bytes at0).masked = true := by
  simp only [Rtc.masked, decide_eq_true_eq, rtcFromBlock_get]
  intro i
  rw [BitVec.and_assoc]
  simp

/-- Everything a restore can do: nothing, the RAM alone, or the RAM, both RTC files and the stamp. -/
theorem loadSRAM_cases (block : List Byte) (s : State) :
    loadSRAM block s = s ∨
    loadSRAM block s = { s with cart := { s.cart with ram := Memory.ofBytes (block.take 0x8000) } } ∨
    loadSRAM block s = { s with cart := { s.cart with
      ram := Memory.ofBytes (block.take 0x8000), rtcLive := rtcFromBlock block 32768
      rtcLatched := rtcFromBlock block 32788, rtcStamp := stampFromBlock block 32808 } } := by
  unfold loadSRAM
  dsimp only
  split
  · exact .inr (.inl rfl)
  · split
    · exact .inr (.inr rfl)
    · exact .inl rfl

theorem loadSRAM_inv (block : List Byte) {s : State} (h : s.Inv) : (loadSRAM block s).Inv := by
  have ram_wf := Memory.ofBytes_wf (block.take 0x8000)
  have ram_range : (Memory.ofBytes (block.take 0x8000)).within 0 0x8000 = true :=
    Memory.within_mono (Nat.le_refl 0) (List.length_take_le ..) (Memory.ofBytes_within _)
  rcases loadSRAM_cases block s with e | e | e <;> rw [e]
  · exact h
  · exact { h with ram_wf, ram_range }
  · exact { h with
      ram_wf, ram_range, live_masked := rtcFromBlock_masked block 32768, latched_masked := rtcFromBlock_masked block 32788 }

/-- Settles O13: reset meets the invariant whatever legal values it is given, the array made of a byte list reads as the list, and
every restored byte is stored in canonical form or under its mask. -/
theorem launchMeetsInvariant : Obligations.LaunchMeetsInvariant := by
  refine ⟨?_, fun p rv init hrom hrv hinit => State.resetWith_inv hrom hrv hinit, Rom.ofBytes_byte,
    fun block s h => loadSRAM_inv block h⟩
  rintro bytes mode period ext rv init p rfl hrv hinit
  rw [State.launch_ofBytes]
  exact ⟨State.resetWith_inv (Rom.ofBytes_wf bytes) hrv hinit, State.resetWith_params ..⟩

/-- Settles O12: the general form by the laws of `resetWith`, field by field; the table of R50 is its case of the defaults. -/
theorem resetMeetsInvariant : Obligations.ResetMeetsInvariant := by
  refine ⟨?_, State.reset_eq, State.reset_inv, ?_⟩
  · rintro p rv init t rfl
    exact ⟨State.resetWith_cpu .., State.resetWith_timer .., State.resetWith_cart .., State.resetWith_params ..,
      State.resetWith_bytes p rv init, fun h => ⟨State.resetWith_if p rv init h, State.resetWith_ie p rv init h⟩⟩
  · decide

end Sys2Proof.Machine
end

section
/-! SUPPORT. What each shared operation adds to the cycle accumulator after the fetches, and the table of R547 family by family
(O18). -/

namespace Sys2Proof.Machine

/-! The cycles of each operation's own accesses and internal ticks -/

section
variable (s : State) (x : Loc8) (n e : Byte) (nn : Word) (p : Pair) (q : StackPair) (b : Fin 8) (cc : Cond)
@[simp] theorem ldRegReg_cyc (dst src : Reg8) : (ldRegReg dst src s).cpu.cyc = s.cpu.cyc := by simp [ldRegReg]
@[simp] theorem ldRegAtHL_cyc (dst : Reg8) : (ldRegAtHL dst s).cpu.cyc = s.cpu.cyc + 4 := by simp [ldRegAtHL, locCycles]
@[simp] theorem ldAtHLReg_cyc (src : Reg8) : (ldAtHLReg src s).cpu.cyc = s.cpu.cyc + 4 := by simp [ldAtHLReg, locCycles]
@[simp] theorem ldLocImm_cyc : (ldLocImm x n s).cpu.cyc = s.cpu.cyc + locCycles x := by simp [ldLocImm]
@[simp] theorem ldAtA_cyc (y : AddrReg) : (ldAtA y s).cpu.cyc = s.cpu.cyc + 4 := by simp [ldAtA]
@[simp] theorem ldAAt_cyc (y : AddrReg) : (ldAAt y s).cpu.cyc = s.cpu.cyc + 4 := by simp [ldAAt]
@[simp] theorem ldAtWordA_cyc : (ldAtWordA nn s).cpu.cyc = s.cpu.cyc + 4 := by simp [ldAtWordA]
@[simp] theorem ldAAtWord_cyc : (ldAAtWord nn s).cpu.cyc = s.cpu.cyc + 4 := by simp [ldAAtWord]
@[simp] theorem ldPairImm_cyc : (ldPairImm p nn s).cpu.cyc = s.cpu.cyc := by simp [ldPairImm]
@[simp] theorem ldAtNNSP_cyc : (ldAtNNSP nn s).cpu.cyc = s.cpu.cyc + 8 := by simp [ldAtNNSP]
@[simp] theorem ldSPHL_cyc : (ldSPHL s).cpu.cyc = s.cpu.cyc + 4 := by simp [ldSPHL]
@[simp] theorem ldHLSPPlusE_cyc : (ldHLSPPlusE e s).cpu.cyc = s.cpu.cyc + 4 := by simp [ldHLSPPlusE]
@[simp] theorem push_cyc : (push q s).cpu.cyc = s.cpu.cyc + 12 := by simp [push]
@[simp] theorem pop_cyc : (pop q s).cpu.cyc = s.cpu.cyc + 8 := by simp [pop]
@[simp] theorem aluApply_cyc (op : AluOp) (v : Byte) : (aluApply op v s).cpu.cyc = s.cpu.cyc := by simp [aluApply]
@[simp] theorem aluLoc_cyc (op : AluOp) : (aluLoc op x s).cpu.cyc = s.cpu.cyc + locCycles x := by simp [aluLoc]
@[simp] theorem aluImm_cyc (op : AluOp) : (aluImm op n s).cpu.cyc = s.cpu.cyc := by simp [aluImm]
@[simp] theorem incLoc_cyc : (incLoc x s).cpu.cyc = s.cpu.cyc + 2 * locCycles x := by
  simp [incLoc, two_mul, Nat.add_assoc]
@[simp] theorem decLoc_cyc : (decLoc x s).cpu.cyc = s.cpu.cyc + 2 * locCycles x := by
  simp [decLoc, two_mul, Nat.add_assoc]
@[simp] theorem daa_cyc : (daa s).cpu.cyc = s.cpu.cyc := by simp [daa]
@[simp] theorem cpl_cyc : (cpl s).cpu.cyc = s.cpu.cyc := by simp [cpl]
@[simp] theorem scf_cyc : (scf s).cpu.cyc = s.cpu.cyc := rfl
@[simp] theorem ccf_cyc : (ccf s).cpu.cyc = s.cpu.cyc := rfl
@[simp] theorem incPair_cyc : (incPair p s).cpu.cyc = s.cpu.cyc + 4 := by simp [incPair]
@[simp] theorem decPair_cyc : (decPair p s).cpu.cyc = s.cpu.cyc + 4 := by simp [decPair]
@[simp] theorem addHLPair_cyc : (addHLPair p s).cpu.cyc = s.cpu.cyc + 4 := by simp [addHLPair]
@[simp] theorem addSPE_cyc : (addSPE e s).cpu.cyc = s.cpu.cyc + 8 := by simp [addSPE]
@[simp] theorem rotA_cyc (op : RotOp) : (rotA op s).cpu.cyc = s.cpu.cyc := by simp [rotA]
@[simp] theorem rotLoc_cyc (op : RotOp) : (rotLoc op x s).cpu.cyc = s.cpu.cyc + 2 * locCycles x := by
  simp [rotLoc, two_mul, Nat.add_assoc]
@[simp] theorem bitLoc_cyc : (bitLoc b x s).cpu.cyc = s.cpu.cyc + locCycles x := by simp [bitLoc]
@[simp] theorem resLoc_cyc : (resLoc b x s).cpu.cyc = s.cpu.cyc + 2 * locCycles x := by
  simp [resLoc, two_mul, Nat.add_assoc]
@[simp] theorem setLoc_cyc : (setLoc b x s).cpu.cyc = s.cpu.cyc + 2 * locCycles x := by
  simp [setLoc, two_mul, Nat.add_assoc]
@[simp] theorem jr_cyc : (jr e s).cpu.cyc = s.cpu.cyc + 4 := by simp [jr]
@[simp] theorem jp_cyc : (jp nn s).cpu.cyc = s.cpu.cyc + 4 := by simp [jp]
@[simp] theorem jpHL_cyc : (jpHL s).cpu.cyc = s.cpu.cyc := rfl
@[simp] theorem call_cyc : (call nn s).cpu.cyc = s.cpu.cyc + 12 := by simp [call]
@[simp] theorem ret_cyc : (ret s).cpu.cyc = s.cpu.cyc + 12 := by simp [ret]
@[simp] theorem reti_cyc : (reti s).cpu.cyc = s.cpu.cyc + 12 := by simp [reti]
@[simp] theorem rst_cyc (y : Fin 8) : (rst y s).cpu.cyc = s.cpu.cyc + 12 := call_cyc s _
@[simp] theorem unrecognised_cyc : (unrecognised n s).cpu.cyc = s.cpu.cyc := rfl
theorem jrCond_cyc : (jrCond cc e s).cpu.cyc = s.cpu.cyc + if condHolds cc s then 4 else 0 := by
  rw [jrCond]; split <;> simp
theorem jpCond_cyc : (jpCond cc nn s).cpu.cyc = s.cpu.cyc + if condHolds cc s then 4 else 0 := by
  rw [jpCond]; split <;> simp
theorem callCond_cyc : (callCond cc nn s).cpu.cyc = s.cpu.cyc + if condHolds cc s then 12 else 0 := by
  rw [callCond]; split <;> simp
/-- RET cc spends its first internal cycle before it reads the condition, which that cycle does not change (R338). -/
theorem retCond_cyc : (retCond cc s).cpu.cyc = s.cpu.cyc + if condHolds cc s then 16 else 4 := by
  have hc : condHolds cc (tick 4 s) = condHolds cc s := condHolds_congr cc (by simp)
  simp only [retCond, hc]
  split <;> simp
end

/-! Which instructions have a condition (R137) -/

theorem taken_jrCond (cc : Cond) (e : Byte) (s : State) : taken (Instr.jrCond cc e) s = condHolds cc s := by cases cc <;> rfl
theorem taken_jpCond (cc : Cond) (nn : Word) (s : State) : taken (Instr.jpCond cc nn) s = condHolds cc s := by
  cases cc <;> rfl
theorem taken_callCond (cc : Cond) (nn : Word) (s : State) : taken (Instr.callCond cc nn) s = condHolds cc s := by
  cases cc <;> rfl
theorem taken_retCond (cc : Cond) (s : State) : taken (Instr.retCond cc) s = condHolds cc s := by cases cc <;> rfl

/-! The table of R547: what it leaves for an instruction beyond the 4 cycles of each byte fetched -/

section
variable (taken : Bool) (x : Loc8) (n : Byte) (nn : Word) (p : Pair) (q : StackPair) (b : Fin 8) (cc : Cond)
theorem cycles_ldRegReg (dst src : Reg8) :
    (Instr.ldRegReg dst src).cycles taken = 0 + 4 * (encode (Instr.ldRegReg dst src)).length := by
  cases dst <;> cases src <;> rfl
theorem cycles_ldRegAtHL (dst : Reg8) :
    (Instr.ldRegAtHL dst).cycles taken = 4 + 4 * (encode (Instr.ldRegAtHL dst)).length := by
  cases dst <;> rfl
theorem cycles_ldAtHLReg (src : Reg8) :
    (Instr.ldAtHLReg src).cycles taken = 4 + 4 * (encode (Instr.ldAtHLReg src)).length := by
  cases src <;> rfl
theorem cycles_ldLocImm :
    (Instr.ldLocImm x n).cycles taken = locCycles x + 4 * (encode (Instr.ldLocImm x n)).length := by
  rcases x with (_ | _ | _ | _ | _ | _ | _) | _ <;> rfl
theorem cycles_ldAtA (y : AddrReg) : (Instr.ldAtA y).cycles taken = 4 + 4 * (encode (Instr.ldAtA y)).length := by
  cases y <;> rfl
theorem cycles_ldAAt (y : AddrReg) : (Instr.ldAAt y).cycles taken = 4 + 4 * (encode (Instr.ldAAt y)).length := by
  cases y <;> rfl
theorem cycles_ldPairImm :
    (Instr.ldPairImm p nn).cycles taken = 0 + 4 * (encode (Instr.ldPairImm p nn)).length := by
  cases p <;> rfl
theorem cycles_push : (Instr.push q).cycles taken = 12 + 4 * (encode (Instr.push q)).length := by cases q <;> rfl
theorem cycles_pop : (Instr.pop q).cycles taken = 8 + 4 * (encode (Instr.pop q)).length := by cases q <;> rfl
theorem cycles_alu (op : AluOp) :
    (Instr.alu op x).cycles taken = locCycles x + 4 * (encode (Instr.alu op x)).length := by
  cases op <;> rcases x with (_ | _ | _ | _ | _ | _ | _) | _ <;> rfl
theorem cycles_aluImm (op : AluOp) :
    (Instr.aluImm op n).cycles taken = 0 + 4 * (encode (Instr.aluImm op n)).length := by
  cases op <;> rfl
theorem cycles_inc : (Instr.inc x).cycles taken = 2 * locCycles x + 4 * (encode (Instr.inc x)).length := by
  rcases x with (_ | _ | _ | _ | _ | _ | _) | _ <;> rfl
theorem cycles_dec : (Instr.dec x).cycles taken = 2 * locCycles x + 4 * (encode (Instr.dec x)).length := by
  rcases x with (_ | _ | _ | _ | _ | _ | _) | _ <;> rfl
theorem cycles_incPair : (Instr.incPair p).cycles taken = 4 + 4 * (encode (Instr.incPair p)).length := by
  cases p <;> rfl
theorem cycles_decPair : (Instr.decPair p).cycles taken = 4 + 4 * (encode (Instr.decPair p)).length := by
  cases p <;> rfl
theorem cycles_addHLPair : (Instr.addHLPair p).cycles taken = 4 + 4 * (encode (Instr.addHLPair p)).length := by
  cases p <;> rfl
theorem cycles_rot (op : RotOp) :
    (Instr.rot op x).cycles taken = 2 * locCycles x + 4 * (encode (Instr.rot op x)).length := by
  cases op <;> rcases x with (_ | _ | _ | _ | _ | _ | _) | _ <;> rfl
theorem cycles_bit : (Instr.bit b x).cycles taken = locCycles x + 4 * (encode (Instr.bit b x)).length := by
  fin_cases b <;> rcases x with (_ | _ | _ | _ | _ | _ | _) | _ <;> rfl
theorem cycles_res : (Instr.res b x).cycles taken = 2 * locCycles x + 4 * (encode (Instr.res b x)).length := by
  fin_cases b <;> rcases x with (_ | _ | _ | _ | _ | _ | _) | _ <;> rfl
theorem cycles_set : (Instr.set b x).cycles taken = 2 * locCycles x + 4 * (encode (Instr.set b x)).length := by
  fin_cases b <;> rcases x with (_ | _ | _ | _ | _ | _ | _) | _ <;> rfl
theorem cycles_jrCond :
    (Instr.jrCond cc n).cycles taken = (if taken then 4 else 0) + 4 * (encode (Instr.jrCond cc n)).length := by
  cases cc <;> cases taken <;> rfl
theorem cycles_jpCond :
    (Instr.jpCond cc nn).cycles taken = (if taken then 4 else 0) + 4 * (encode (Instr.jpCond cc nn)).length := by
  cases cc <;> cases taken <;> rfl
theorem cycles_callCond :
    (Instr.callCond cc nn).cycles taken = (if taken then 12 else 0) + 4 * (encode (Instr.callCond cc nn)).length := by
  cases cc <;> cases taken <;> rfl
theorem cycles_retCond :
    (Instr.retCond cc).cycles taken = (if taken then 16 else 4) + 4 * (encode (Instr.retCond cc)).length := by
  cases cc <;> cases taken <;> rfl
theorem cycles_rst (y : Fin 8) : (Instr.rst y).cycles taken = 12 + 4 * (encode (Instr.rst y)).length := by
  fin_cases y <;> rfl
theorem cycles_unrecognised {i : Instr} (h : i.isUnrecognised = true) : i.cycles taken = 0 + 4 * (encode i).length := by
  unfold Instr.isUnrecognised at h
  split at h
  case h_12 => exact absurd h Bool.false_ne_true
  all_goals rfl
end

/-- An instruction's ticks and accesses, with its fetches, cost what the table says, in every state. -/
def CostsTableCycles (i : Instr) : Prop :=
  ∀ s : State, ∃ t, exec i s = .next t ∧ t.cpu.cyc + 4 * (encode i).length = s.cpu.cyc + i.cycles (taken i s)

/-- A meaning that costs `n` cycles, taken or not, matches a table entry of `n` more than the fetches. -/
theorem CostsTableCycles.of_cond {i : Instr} {op : State → State} (n : Bool → Nat) (hexec : ∀ s, exec i s = .next (op s))
    (hcyc : ∀ s, (op s).cpu.cyc = s.cpu.cyc + n (taken i s)) (htable : ∀ b, i.cycles b = n b + 4 * (encode i).length) :
    CostsTableCycles i := fun s => ⟨op s, hexec s, by rw [hcyc, htable, Nat.add_assoc]⟩

theorem CostsTableCycles.of_uncond {i : Instr} {op : State → State} (n : Nat) (hexec : ∀ s, exec i s = .next (op s))
    (hcyc : ∀ s, (op s).cpu.cyc = s.cpu.cyc + n) (htable : ∀ b, i.cycles b = n + 4 * (encode i).length) :
    CostsTableCycles i := .of_cond (fun _ => n) hexec hcyc htable

/-- Family by family, the cycles of the meaning are those of the table. -/
theorem costsTableCycles (i : Instr) : CostsTableCycles i := by
  induction i using Instr.by_family with
  | ldRegReg dst src => exact .of_uncond 0 (exec_ldRegReg dst src) (ldRegReg_cyc · dst src) (cycles_ldRegReg · dst src)
  | ldRegAtHL dst => exact .of_uncond 4 (exec_ldRegAtHL dst) (ldRegAtHL_cyc · dst) (cycles_ldRegAtHL · dst)
  | ldAtHLReg src => exact .of_uncond 4 (exec_ldAtHLReg src) (ldAtHLReg_cyc · src) (cycles_ldAtHLReg · src)
  | ldLocImm x n => exact .of_uncond (locCycles x) (exec_ldLocImm x n) (ldLocImm_cyc · x n) (cycles_ldLocImm · x n)
  | ldAtA y => exact .of_uncond 4 (exec_ldAtA y) (ldAtA_cyc · y) (cycles_ldAtA · y)
  | ldAAt y => exact .of_uncond 4 (exec_ldAAt y) (ldAAt_cyc · y) (cycles_ldAAt · y)
  | ldPairImm p nn => exact .of_uncond 0 (exec_ldPairImm p nn) (ldPairImm_cyc · nn p) (cycles_ldPairImm · nn p)
  | push q => exact .of_uncond 12 (exec_push q) (push_cyc · q) (cycles_push · q)
  | pop q => exact .of_uncond 8 (exec_pop q) (pop_cyc · q) (cycles_pop · q)
  | alu op x => exact .of_uncond (locCycles x) (exec_alu op x) (aluLoc_cyc · x op) (cycles_alu · x op)
  | aluImm op n => exact .of_uncond 0 (exec_aluImm op n) (aluImm_cyc · n op) (cycles_aluImm · n op)
  | inc x => exact .of_uncond (2 * locCycles x) (exec_inc x) (incLoc_cyc · x) (cycles_inc · x)
  | dec x => exact .of_uncond (2 * locCycles x) (exec_dec x) (decLoc_cyc · x) (cycles_dec · x)
  | incPair p => exact .of_uncond 4 (exec_incPair p) (incPair_cyc · p) (cycles_incPair · p)
  | decPair p => exact .of_uncond 4 (exec_decPair p) (decPair_cyc · p) (cycles_decPair · p)
  | addHLPair p => exact .of_uncond 4 (exec_addHLPair p) (addHLPair_cyc · p) (cycles_addHLPair · p)
  | rot op x => exact .of_uncond (2 * locCycles x) (exec_rot op x) (rotLoc_cyc · x op) (cycles_rot · x op)
  | bit b x => exact .of_uncond (locCycles x) (exec_bit b x) (bitLoc_cyc · x b) (cycles_bit · x b)
  | res b x => exact .of_uncond (2 * locCycles x) (exec_res b x) (resLoc_cyc · x b) (cycles_res · x b)
  | set b x => exact .of_uncond (2 * locCycles x) (exec_set b x) (setLoc_cyc · x b) (cycles_set · x b)
  | jrCond cc e =>
    exact .of_cond (if · then 4 else 0) (exec_jrCond cc e) (fun s => taken_jrCond cc e s ▸ jrCond_cyc s e cc)
      (cycles_jrCond · e cc)
  | jpCond cc nn =>
    exact .of_cond (if · then 4 else 0) (exec_jpCond cc nn) (fun s => taken_jpCond cc nn s ▸ jpCond_cyc s nn cc)
      (cycles_jpCond · nn cc)
  | callCond cc nn =>
    exact .of_cond (if · then 12 else 0) (exec_callCond cc nn) (fun s => taken_callCond cc nn s ▸ callCond_cyc s nn cc)
      (cycles_callCond · nn cc)
  | retCond cc =>
    exact .of_cond (if · then 16 else 4) (exec_retCond cc) (fun s => taken_retCond cc s ▸ retCond_cyc s cc)
      (cycles_retCond · cc)
  | rst y => exact .of_uncond 12 (exec_rst y) (rst_cyc · y) (cycles_rst · y)
  | ldhAtNA n => exact .of_uncond 4 (fun _ => rfl) (ldAtWordA_cyc · (highPage n)) (fun _ => rfl)
  | ldAtNNA nn => exact .of_uncond 4 (fun _ => rfl) (ldAtWordA_cyc · nn) (fun _ => rfl)
  | ldhAAtN n => exact .of_uncond 4 (fun _ => rfl) (ldAAtWord_cyc · (highPage n)) (fun _ => rfl)
  | ldAAtNN nn => exact .of_uncond 4 (fun _ => rfl) (ldAAtWord_cyc · nn) (fun _ => rfl)
  | ldAtNNSP nn => exact .of_uncond 8 (fun _ => rfl) (ldAtNNSP_cyc · nn) (fun _ => rfl)
  | ldHLSPPlusE e => exact .of_uncond 4 (fun _ => rfl) (ldHLSPPlusE_cyc · e) (fun _ => rfl)
  | ldSPHL => exact .of_uncond 4 (fun _ => rfl) ldSPHL_cyc (fun _ => rfl)
  | daa => exact .of_uncond 0 (fun _ => rfl) daa_cyc (fun _ => rfl)
  | cpl => exact .of_uncond 0 (fun _ => rfl) cpl_cyc (fun _ => rfl)
  | scf => exact .of_uncond 0 (fun _ => rfl) scf_cyc (fun _ => rfl)
  | ccf => exact .of_uncond 0 (fun _ => rfl) ccf_cyc (fun _ => rfl)
  | addSPE e => exact .of_uncond 8 (fun _ => rfl) (addSPE_cyc · e) (fun _ => rfl)
  | rlca => exact .of_uncond 0 (fun _ => rfl) (rotA_cyc · .rlc) (fun _ => rfl)
  | rrca => exact .of_uncond 0 (fun _ => rfl) (rotA_cyc · .rrc) (fun _ => rfl)
  | rla => exact .of_uncond 0 (fun _ => rfl) (rotA_cyc · .rl) (fun _ => rfl)
  | rra => exact .of_uncond 0 (fun _ => rfl) (rotA_cyc · .rr) (fun _ => rfl)
  | jr e => exact .of_uncond 4 (fun _ => rfl) (jr_cyc · e) (fun _ => rfl)
  | jp nn => exact .of_uncond 4 (fun _ => rfl) (jp_cyc · nn) (fun _ => rfl)
  | ret => exact .of_uncond 12 (fun _ => rfl) ret_cyc (fun _ => rfl)
  | call nn => exact .of_uncond 12 (fun _ => rfl) (call_cyc · nn) (fun _ => rfl)
  | reti => exact .of_uncond 12 (fun _ => rfl) reti_cyc (fun _ => rfl)
  | jpHL => exact .of_uncond 0 (fun _ => rfl) jpHL_cyc (fun _ => rfl)
  | nop | stop | halt | di | ei => exact .of_uncond 0 (fun _ => rfl) (fun _ => rfl) (fun _ => rfl)
  | unrecognised i h =>
    exact .of_uncond 0 (exec_unrecognised i h) (unrecognised_cyc · ((encode i).headD 0)) (cycles_unrecognised · h)

/-- Settles O18, by the families of operands: each meaning's cycle count is the table's entry less the fetches. -/
theorem cyclesMatchOpcodeTable : Obligations.CyclesMatchOpcodeTable := costsTableCycles

end Sys2Proof.Machine
end

section
/-! SUPPORT. The meaning of each instruction as data, what a step can do, and the invariant through the meanings (O11, O9). -/

namespace Sys2Proof.Machine

/-! The meanings (R140 to R145): a fact of every instruction and its next state follows from one case per family -/

/-- `Meaning i op`: in every state, `exec` answers instruction `i` with the next state that `op` gives (`exec_meaning`). -/
inductive Meaning : Instr → (State → State) → Prop
  | ldRegReg (dst src : Reg8) : Meaning (Instr.ldRegReg dst src) (ldRegReg dst src)
  | ldRegAtHL (dst : Reg8) : Meaning (Instr.ldRegAtHL dst) (ldRegAtHL dst)
  | ldAtHLReg (src : Reg8) : Meaning (Instr.ldAtHLReg src) (ldAtHLReg src)
  | ldLocImm (x : Loc8) (n : Byte) : Meaning (Instr.ldLocImm x n) (ldLocImm x n)
  | ldAtA (y : AddrReg) : Meaning (Instr.ldAtA y) (ldAtA y)
  | ldAAt (y : AddrReg) : Meaning (Instr.ldAAt y) (ldAAt y)
  | ldPairImm (p : Pair) (nn : Word) : Meaning (Instr.ldPairImm p nn) (ldPairImm p nn)
  | push (q : StackPair) : Meaning (Instr.push q) (push q)
  | pop (q : StackPair) : Meaning (Instr.pop q) (pop q)
  | alu (op : AluOp) (x : Loc8) : Meaning (Instr.alu op x) (aluLoc op x)
  | aluImm (op : AluOp) (n : Byte) : Meaning (Instr.aluImm op n) (aluImm op n)
  | inc (x : Loc8) : Meaning (Instr.inc x) (incLoc x)
  | dec (x : Loc8) : Meaning (Instr.dec x) (decLoc x)
  | incPair (p : Pair) : Meaning (Instr.incPair p) (incPair p)
  | decPair (p : Pair) : Meaning (Instr.decPair p) (decPair p)
  | addHLPair (p : Pair) : Meaning (Instr.addHLPair p) (addHLPair p)
  | rot (op : RotOp) (x : Loc8) : Meaning (Instr.rot op x) (rotLoc op x)
  | bit (b : Fin 8) (x : Loc8) : Meaning (Instr.bit b x) (bitLoc b x)
  | res (b : Fin 8) (x : Loc8) : Meaning (Instr.res b x) (resLoc b x)
  | set (b : Fin 8) (x : Loc8) : Meaning (Instr.set b x) (setLoc b x)
  | jrCond (cc : Cond) (e : Byte) : Meaning (Instr.jrCond cc e) (jrCond cc e)
  | jpCond (cc : Cond) (nn : Word) : Meaning (Instr.jpCond cc nn) (jpCond cc nn)
  | callCond (cc : Cond) (nn : Word) : Meaning (Instr.callCond cc nn) (callCond cc nn)
  | retCond (cc : Cond) : Meaning (Instr.retCond cc) (retCond cc)
  | rst (y : Fin 8) : Meaning (Instr.rst y) (rst y)
  | ldhAtNA (n : Byte) : Meaning (.ldhAtNA n) (ldAtWordA (highPage n))
  | ldAtNNA (nn : Word) : Meaning (.ldAtNNA nn) (ldAtWordA nn)
  | ldhAAtN (n : Byte) : Meaning (.ldhAAtN n) (ldAAtWord (highPage n))
  | ldAAtNN (nn : Word) : Meaning (.ldAAtNN nn) (ldAAtWord nn)
  | ldAtNNSP (nn : Word) : Meaning (.ldAtNNSP nn) (ldAtNNSP nn)
  | ldHLSPPlusE (e : Byte) : Meaning (.ldHLSPPlusE e) (ldHLSPPlusE e)
  | ldSPHL : Meaning .ldSPHL ldSPHL
  | daa : Meaning .daa daa
  | cpl : Meaning .cpl cpl
  | scf : Meaning .scf scf
  | ccf : Meaning .ccf ccf
  | addSPE (e : Byte) : Meaning (.addSPE e) (addSPE e)
  | rlca : Meaning .rlca (rotA .rlc)
  | rrca : Meaning .rrca (rotA .rrc)
  | rla : Meaning .rla (rotA .rl)
  | rra : Meaning .rra (rotA .rr)
  | jr (e : Byte) : Meaning (.jr e) (jr e)
  | jp (nn : Word) : Meaning (.jp nn) (jp nn)
  | ret : Meaning .ret ret
  | call (nn : Word) : Meaning (.call nn) (call nn)
  | reti : Meaning .reti reti
  | jpHL : Meaning .jpHL jpHL
  | nop : Meaning .nop nop
  | stop : Meaning .stop stop
  | halt : Meaning .halt halt
  | di : Meaning .di di
  | ei : Meaning .ei ei
  | unrecognised (i : Instr) (h : i.isUnrecognised = true) : Meaning i (unrecognised ((encode i).headD 0))

/-- Every instruction has a meaning, and it is what `exec` answers. -/
theorem exec_meaning (i : Instr) : ∃ op, Meaning i op ∧ ∀ s, exec i s = .next (op s) := by
  induction i using Instr.by_family with
  | ldRegReg dst src => exact ⟨_, .ldRegReg dst src, exec_ldRegReg dst src⟩
  | ldRegAtHL dst => exact ⟨_, .ldRegAtHL dst, exec_ldRegAtHL dst⟩
  | ldAtHLReg src => exact ⟨_, .ldAtHLReg src, exec_ldAtHLReg src⟩
  | ldLocImm x n => exact ⟨_, .ldLocImm x n, exec_ldLocImm x n⟩
  | ldAtA y => exact ⟨_, .ldAtA y, exec_ldAtA y⟩
  | ldAAt y => exact ⟨_, .ldAAt y, exec_ldAAt y⟩
  | ldPairImm p nn => exact ⟨_, .ldPairImm p nn, exec_ldPairImm p nn⟩
  | push q => exact ⟨_, .push q, exec_push q⟩
  | pop q => exact ⟨_, .pop q, exec_pop q⟩
  | alu op x => exact ⟨_, .alu op x, exec_alu op x⟩
  | aluImm op n => exact ⟨_, .aluImm op n, exec_aluImm op n⟩
  | inc x => exact ⟨_, .inc x, exec_inc x⟩
  | dec x => exact ⟨_, .dec x, exec_dec x⟩
  | incPair p => exact ⟨_, .incPair p, exec_incPair p⟩
  | decPair p => exact ⟨_, .decPair p, exec_decPair p⟩
  | addHLPair p => exact ⟨_, .addHLPair p, exec_addHLPair p⟩
  | rot op x => exact ⟨_, .rot op x, exec_rot op x⟩
  | bit b x => exact ⟨_, .bit b x, exec_bit b x⟩
  | res b x => exact ⟨_, .res b x, exec_res b x⟩
  | set b x => exact ⟨_, .set b x, exec_set b x⟩
  | jrCond cc e => exact ⟨_, .jrCond cc e, exec_jrCond cc e⟩
  | jpCond cc nn => exact ⟨_, .jpCond cc nn, exec_jpCond cc nn⟩
  | callCond cc nn => exact ⟨_, .callCond cc nn, exec_callCond cc nn⟩
  | retCond cc => exact ⟨_, .retCond cc, exec_retCond cc⟩
  | rst y => exact ⟨_, .rst y, exec_rst y⟩
  | ldhAtNA n => exact ⟨_, .ldhAtNA n, fun _ => rfl⟩
  | ldAtNNA nn => exact ⟨_, .ldAtNNA nn, fun _ => rfl⟩
  | ldhAAtN n => exact ⟨_, .ldhAAtN n, fun _ => rfl⟩
  | ldAAtNN nn => exact ⟨_, .ldAAtNN nn, fun _ => rfl⟩
  | ldAtNNSP nn => exact ⟨_, .ldAtNNSP nn, fun _ => rfl⟩
  | ldHLSPPlusE e => exact ⟨_, .ldHLSPPlusE e, fun _ => rfl⟩
  | ldSPHL => exact ⟨_, .ldSPHL, fun _ => rfl⟩
  | daa => exact ⟨_, .daa, fun _ => rfl⟩
  | cpl => exact ⟨_, .cpl, fun _ => rfl⟩
  | scf => exact ⟨_, .scf, fun _ => rfl⟩
  | ccf => exact ⟨_, .ccf, fun _ => rfl⟩
  | addSPE e => exact ⟨_, .addSPE e, fun _ => rfl⟩
  | rlca => exact ⟨_, .rlca, fun _ => rfl⟩
  | rrca => exact ⟨_, .rrca, fun _ => rfl⟩
  | rla => exact ⟨_, .rla, fun _ => rfl⟩
  | rra => exact ⟨_, .rra, fun _ => rfl⟩
  | jr e => exact ⟨_, .jr e, fun _ => rfl⟩
  | jp nn => exact ⟨_, .jp nn, fun _ => rfl⟩
  | ret => exact ⟨_, .ret, fun _ => rfl⟩
  | call nn => exact ⟨_, .call nn, fun _ => rfl⟩
  | reti => exact ⟨_, .reti, fun _ => rfl⟩
  | jpHL => exact ⟨_, .jpHL, fun _ => rfl⟩
  | nop => exact ⟨_, .nop, fun _ => rfl⟩
  | stop => exact ⟨_, .stop, fun _ => rfl⟩
  | halt => exact ⟨_, .halt, fun _ => rfl⟩
  | di => exact ⟨_, .di, fun _ => rfl⟩
  | ei => exact ⟨_, .ei, fun _ => rfl⟩
  | unrecognised i h => exact ⟨_, .unrecognised i h, exec_unrecognised i h⟩

/-- What `exec` answers is the meaning's next state. -/
theorem exec_next {i : Instr} {s t : State} (h : exec i s = .next t) : ∃ op, Meaning i op ∧ t = op s := by
  obtain ⟨op, hm, hop⟩ := exec_meaning i
  rw [hop, Host.Outcome.next.injEq] at h
  exact ⟨op, hm, h.symm⟩

/-- The unrecognised instructions are the bytes of R145. -/
theorem headD_encode_mem_unrecognisedBytes {i : Instr} (h : i.isUnrecognised = true) : (encode i).headD 0 ∈ unrecognisedBytes := by
  unfold Instr.isUnrecognised at h
  split at h
  case h_12 => exact absurd h Bool.false_ne_true
  all_goals decide

/-! The conditional transfers: their unconditional form, or no transfer (R331, R333, R336, R338) -/

section
variable (cc : Cond) (s : State)
theorem jrCond_cases (e : Byte) : jrCond cc e s = jr e s ∨ jrCond cc e s = s := by
  unfold jrCond; split
  exacts [.inl rfl, .inr rfl]
theorem jpCond_cases (nn : Word) : jpCond cc nn s = jp nn s ∨ jpCond cc nn s = s := by
  unfold jpCond; split
  exacts [.inl rfl, .inr rfl]
theorem callCond_cases (nn : Word) :
    condHolds cc s = true ∧ callCond cc nn s = call nn s ∨ condHolds cc s = false ∧ callCond cc nn s = s := by
  unfold callCond
  cases condHolds cc s
  exacts [.inr ⟨rfl, rfl⟩, .inl ⟨rfl, rfl⟩]
theorem retCond_cases : retCond cc s = ret (tick 4 s) ∨ retCond cc s = tick 4 s := by
  unfold retCond; dsimp only; split
  exacts [.inl rfl, .inr rfl]
end

/-! The step (R545) -/

theorem step_halted {s : State} (hf : s.cpu.fault = none) (hh : s.cpu.halted = true) :
    step s = .next (interruptCheck (tick 4 (betweenSteps s))) := by
  simp [step, hf, hh, idleTick]

theorem step_running {s : State} (hf : s.cpu.fault = none) (hh : s.cpu.halted = false) :
    step s = finishStep (exec (fetchInstr (betweenSteps s)).1 (fetchInstr (betweenSteps s)).2) := by
  simp [step, hf, hh]

/-- Everything a step can do: an idle tick while halted, or the meaning of the instruction fetched; then the interrupt check,
which a fatal error suppresses (R400, R545). -/
theorem step_cases {s t : State} (h : step s = .next t) : s.cpu.fault = none ∧
    (s.cpu.halted = true ∧ t = interruptCheck (tick 4 (betweenSteps s)) ∨
    s.cpu.halted = false ∧ ∃ u, exec (fetchInstr (betweenSteps s)).1 (fetchInstr (betweenSteps s)).2 = .next u ∧
      (u.cpu.fault = none ∧ t = interruptCheck u ∨ u.cpu.fault ≠ none ∧ t = u)) := by
  cases hf : s.cpu.fault with
  | some e => simp [step, hf] at h
  | none =>
    refine ⟨rfl, ?_⟩
    cases hh : s.cpu.halted with
    | true => exact .inl ⟨rfl, by simpa [step_halted hf hh] using h.symm⟩
    | false =>
      obtain ⟨op, -, hop⟩ := exec_meaning (fetchInstr (betweenSteps s)).1
      rw [step_running hf hh, hop, finishStep] at h
      refine .inr ⟨rfl, _, hop _, ?_⟩
      split at h <;> rw [Host.Outcome.next.injEq] at h
      · exact .inl ⟨‹_›, h.symm⟩
      · next hu => exact .inr ⟨by simp [hu], h.symm⟩

/-- Settles O9, by the halted case of the step and the CPU of a tick. -/
theorem idleStepWhileHalted : Obligations.IdleStepWhileHalted :=
  fun s hf hh => ⟨step_halted hf hh, by simp⟩

/-! The invariant through the meanings -/

theorem State.Good.aluApply {s : State} (h : s.Good) (op : AluOp) (v : Byte) : (aluApply op v s).Good :=
  (h.setReg8 _ _).setF _

/-- An instruction of the ISA keeps the invariant and latches nothing. -/
theorem Meaning.good {i : Instr} {op : State → State} (hm : Meaning i op) (hi : i.isUnrecognised = false) {s : State}
    (h : s.Good) : (op s).Good := by
  cases hm with
  | ldRegReg dst src => exact h.setReg8 _ _
  | ldRegAtHL dst => exact (h.readLoc8 .atHL).setReg8 _ _
  | ldAtHLReg src => exact h.writeLoc8 .atHL _
  | ldLocImm x n => exact h.writeLoc8 x n
  | ldAtA y => exact (h.memWrite _ _).afterAddr y
  | ldAAt y => exact ((h.memRead _).setReg8 _ _).afterAddr y
  | ldPairImm p nn => exact h.setPair p nn
  | push q => exact (h.tick 4 rfl).push16 _
  | pop q => exact h.pop16.writeStackPair q _
  | alu op x => exact (h.readLoc8 x).aluApply op _
  | aluImm op n => exact h.aluApply op n
  | inc x | dec x => exact ((h.readLoc8 x).setF _).writeLoc8 x _
  | incPair p | decPair p => exact (h.setPair p _).tick 4 rfl
  | addHLPair p => exact ((h.setF _).setPair .hl _).tick 4 rfl
  | rot op x => exact ((h.readLoc8 x).setFlags _ _ _ _).writeLoc8 x _
  | bit b x => exact (h.readLoc8 x).setFlags _ _ _ _
  | res b x | set b x => exact (h.readLoc8 x).writeLoc8 x _
  | jrCond cc e =>
    rcases jrCond_cases cc s e with eq | eq <;> rw [eq]
    exacts [(h.setPc _).tick 4 rfl, h]
  | jpCond cc nn =>
    rcases jpCond_cases cc s nn with eq | eq <;> rw [eq]
    exacts [(h.setPc nn).tick 4 rfl, h]
  | callCond cc nn =>
    rcases callCond_cases cc s nn with ⟨_, eq⟩ | ⟨_, eq⟩ <;> rw [eq]
    exacts [((h.tick 4 rfl).push16 _).setPc nn, h]
  | retCond cc =>
    rcases retCond_cases cc s with eq | eq <;> rw [eq]
    exacts [((h.tick 4 rfl).pop16.setPc _).tick 4 rfl, h.tick 4 rfl]
  | ldhAtNA n => exact h.memWrite _ _
  | ldAtNNA nn => exact h.memWrite _ _
  | ldhAAtN n => exact (h.memRead (highPage n)).setReg8 .a _
  | ldAAtNN nn => exact (h.memRead nn).setReg8 .a _
  | ldAtNNSP nn => exact h.memWrite2 _ _
  | ldHLSPPlusE e => exact ((h.setF _).setPair .hl _).tick 4 rfl
  | ldSPHL => exact (h.setSp _).tick 4 rfl
  | daa | cpl => exact (h.setReg8 _ _).setFlags _ _ _ _
  | scf | ccf => exact h.setFlags _ _ _ _
  | addSPE e => exact ((h.setF _).setSp _).tick 8 rfl
  | rlca | rrca | rla | rra => exact (h.setReg8 _ _).setFlags _ _ _ _
  | jr e => exact (h.setPc _).tick 4 rfl
  | jp nn => exact (h.setPc _).tick 4 rfl
  | ret => exact (h.pop16.setPc _).tick 4 rfl
  | call nn => exact ((h.tick 4 rfl).push16 _).setPc nn
  | rst y => exact ((h.tick 4 rfl).push16 _).setPc _
  | reti => exact h.returnFromInterrupt
  | jpHL => exact h.setPc _
  | nop | stop => exact h
  | halt => exact h.setHalted true
  | di => exact h.setIme false
  | ei => exact h.setIme true
  | unrecognised i hu => exact absurd (hu.symm.trans hi) Bool.noConfusion

/-- An unrecognised byte keeps the invariant and latches itself, with the address before PC (R355, R400). -/
theorem State.Good.unrecognised {s : State} (h : s.Good) {b : Byte} (hb : b ∈ unrecognisedBytes) :
    (unrecognised b s).Inv := by
  have fault_pc : ∀ opcode addr, (Machine.unrecognised b s).cpu.fault = some (opcode, addr) →
      opcode ∈ unrecognisedBytes ∧ (Machine.unrecognised b s).cpu.pc = addr + 1 := by
    intro opcode addr e
    simp only [Machine.unrecognised, raiseFatal, Option.some.injEq, Prod.mk.injEq] at e
    obtain ⟨rfl, rfl⟩ := e
    exact ⟨hb, (BitVec.sub_add_cancel s.cpu.pc 1).symm⟩
  exact { h.1 with fault_pc }

/-- Whatever the instruction, the next state meets the invariant. -/
theorem State.Good.exec {s : State} (h : s.Good) {i : Instr} {t : State} (he : exec i s = .next t) : t.Inv := by
  cases hi : i.isUnrecognised with
  | false =>
    obtain ⟨op, hm, rfl⟩ := exec_next he
    exact (hm.good hi h).1
  | true =>
    rw [exec_unrecognised i hi, Host.Outcome.next.injEq] at he
    exact he ▸ h.unrecognised (headD_encode_mem_unrecognisedBytes hi)

/-- Settles O11: the fetches, the meaning and the interrupt check each keep the invariant while no error is latched, and an
unrecognised byte ends the step with its own latch. -/
theorem stepKeepsInvariant : Obligations.StepKeepsInvariant := by
  intro s t hs hstep
  obtain ⟨hf, ⟨_, rfl⟩ | ⟨_, u, hi, ⟨hu, rfl⟩ | ⟨_, rfl⟩⟩⟩ := step_cases hstep
  all_goals have hb : (betweenSteps s).Good := State.Good.betweenSteps ⟨hs, hf⟩
  · exact (hb.tick 4 rfl).interruptCheck.1
  · have hg : u.Good := ⟨hb.fetchInstr.exec hi, hu⟩
    exact hg.interruptCheck.1
  · exact hb.fetchInstr.exec hi

end Sys2Proof.Machine
end

section
/-! SUPPORT. Flag bytes, the counter, the byte behind an address, and the save block (O20, O27, O22, O14). -/

namespace Sys2Proof.Machine

/-! Flag bytes (R34) -/

theorem packFlags_bits (z n h c : Bool) : (packFlags z n h c).getLsbD 7 = z ∧ (packFlags z n h c).getLsbD 6 = n ∧
    (packFlags z n h c).getLsbD 5 = h ∧ (packFlags z n h c).getLsbD 4 = c := by
  revert z n h c; decide

theorem packFlags_toNat (z n h c : Bool) :
    (packFlags z n h c).toNat = 128 * z.toNat + 64 * n.toNat + 32 * h.toNat + 16 * c.toNat := by
  revert z n h c; decide

theorem State.setFlags_bits (z n h c : Bool) (s : State) : (s.setFlags z n h c).flagZ = z ∧ (s.setFlags z n h c).flagN = n ∧
    (s.setFlags z n h c).flagH = h ∧ (s.setFlags z n h c).flagC = c := by
  simpa only [State.flagZ, State.flagN, State.flagH, State.flagC, State.setFlags_f, packFlags_masked]
    using packFlags_bits z n h c

/-- Settles O20, by the laws of each register write and the four bits of a flag byte. -/
theorem registersPairsAndFlags : Obligations.RegistersPairsAndFlags :=
  ⟨State.reg8_setReg8,
    fun r v s => ⟨State.setReg8_f s r v, State.setReg8_sp s r v, State.setReg8_pc s r v⟩,
    fun _ _ => ⟨hiByte_joinBytes _ _, loByte_joinBytes _ _⟩,
    fun v s => ⟨State.setAf_a s v, State.setAf_f s v⟩,
    fun _ => ⟨rfl, rfl, rfl, rfl⟩,
    fun _ _ => ⟨rfl, rfl, rfl, rfl⟩,
    fun hi lo => by rw [joinBytes_toNat, Nat.mul_comm],
    State.setFlags_bits,
    packFlags_toNat,
    fun _ => ⟨rfl, rfl, rfl, rfl⟩⟩

/-! The counter (R441, R449) -/

theorem Timer.read_div (t : Timer) : (t.read 0xFF04).toNat = t.counter.toNat / 256 := by
  have := t.counter.isLt
  simp [Timer.read, Nat.shiftRight_eq_div_pow]
  omega

/-- Settles O27: `Timer.steps_counter` in numbers, and DIV as the counter's top byte. -/
theorem counterCountsCycles : Obligations.CounterCountsCycles :=
  ⟨fun n s => by rw [tick_timer, Timer.steps_counter, BitVec.toNat_add, BitVec.toNat_ofNat, Nat.add_mod_mod],
    fun s => Timer.read_div s.timer⟩

/-! The byte behind an address (R83 to R93) -/

/-- What a routed read answers depends on the backing array at most by the byte behind its address. -/
theorem routeRead_setMem {b : Word} {s : State} {m : Memory} (h : ∀ k, backing b s = .mem k → m.read k = s.mem.read k) :
    (routeRead b { s with mem := m }).1 = (routeRead b s).1 := by
  unfold backing at h
  unfold routeRead romRead extRead
  generalize region b = r at h ⊢
  cases r <;> dsimp only at h ⊢
  case romFixed | romBanked => split <;> rfl
  case videoRam | joypad | apu | ppu =>
    split
    · next he => exact h _ (by rw [he])
    · rfl
  case cartWindow =>
    split
    · rfl
    · next hr => exact h _ (by rw [if_neg hr])
  case workRam | echo | flat | intRequest | intEnable => exact h _ rfl

/-- What a routed read answers depends on cartridge RAM at most by the byte behind its address. -/
theorem routeRead_setRam {b : Word} {s : State} {m : Memory}
    (h : ∀ off, backing b s = .ram off → m.read off = s.cart.ram.read off) :
    (routeRead b { s with cart := { s.cart with ram := m } }).1 = (routeRead b s).1 := by
  unfold backing at h
  unfold routeRead romRead extRead
  generalize region b = r at h ⊢
  cases r <;> dsimp only at h ⊢
  case romFixed | romBanked => unfold Cart.romOffset; dsimp only; split <;> rfl
  case videoRam | joypad | apu | ppu => split <;> rfl
  case cartWindow =>
    split
    · next hr =>
      unfold Cart.windowRead
      dsimp only
      split
      · rfl
      · next he =>
        split
        · rfl
        · next hm => exact h _ ((if_pos hr).trans (if_pos (by simp [he, hm])))
    · rfl

/-- Settles O22: a routed write to a storage byte is a write of that byte (`backing_mem`, `backing_ram`), and a read depends on no
other. -/
theorem readAfterWrite : Obligations.ReadAfterWrite := by
  refine ⟨fun s a v k hw hb => ?_, fun s a v off hw hb => ?_, fun s a b v k ha hb => ?_, fun s a b v off ha hb => ?_⟩
  · rw [(backing_mem hb).1, (backing_mem (k := k) (s := { s with mem := s.mem.write k v }) hb).2]
    exact Memory.read_write_same hw k v
  · rw [(backing_ram hb).1,
      (backing_ram (off := off) (s := { s with cart := { s.cart with ram := s.cart.ram.write off v } }) hb).2]
    exact Memory.read_write_same hw off v
  · rw [(backing_mem ha).1]
    exact routeRead_setMem fun j hj => Memory.read_write_other _ _ _ _ fun e => hb (e ▸ hj)
  · rw [(backing_ram ha).1]
    exact routeRead_setRam fun j hj => Memory.read_write_other _ _ _ _ fun e => hb (e ▸ hj)

/-! The save block (R512, R513) -/

theorem Memory.read_above {lo hi : Nat} {m : Memory} (h : m.within lo hi = true) {a : Nat} (ha : hi ≤ a) :
    m.read a = Memory.unlisted := by
  induction m with
  | nil => rfl
  | cons x m ih =>
    simp only [Memory.within, List.all_cons, Bool.and_eq_true, decide_eq_true_eq] at h ih
    simp only [Memory.read]
    rw [if_neg (by omega)]
    exact ih h.2

/-- A canonical byte array is restored from the list of its bytes. -/
theorem Memory.ofBytes_map_read {n : Nat} {m : Memory} (hw : m.wf = true) (hr : m.within 0 n = true) :
    Memory.ofBytes ((List.range n).map m.read) = m := by
  refine Memory.ext_read (Memory.ofBytes_wf _) hw fun a => ?_
  rw [Memory.ofBytes_read]
  by_cases ha : a < n
  · simp [ha]
  · rw [List.getD_eq_default _ _ (by simpa using ha), Memory.read_above hr (by omega)]

theorem Rtc.ext_get {r r' : Rtc} (h : ∀ i, r.get i = r'.get i) : r = r' := by
  cases r; cases r'
  rw [Rtc.mk.injEq]
  exact ⟨h 0, h 1, h 2, h 3, h 4⟩

theorem Rtc.get_masked {r : Rtc} (h : r.masked = true) (i : Fin 5) : r.get i &&& Rtc.mask i = r.get i := by
  have hi : r.get i &&& ~~~(Rtc.mask i) = 0 := (of_decide_eq_true h) i
  calc r.get i &&& Rtc.mask i
    _ = (r.get i &&& Rtc.mask i) ||| (r.get i &&& ~~~(Rtc.mask i)) := by rw [hi]; exact BitVec.or_zero.symm
    _ = r.get i := by rw [← BitVec.and_or_distrib_left, BitVec.or_not_self, BitVec.and_allOnes]

theorem rtcBlock_length (c : Cart) : (rtcBlock c).length = 48 := rfl

theorem rtcBlock_live (c : Cart) (i : Fin 5) : (rtcBlock c).getD (4 * i.val) 0 = c.rtcLive.get i := by
  fin_cases i <;> exact (BitVec.ofNat_toNat 8 _).trans (BitVec.setWidth_eq _)

theorem rtcBlock_latched (c : Cart) (i : Fin 5) : (rtcBlock c).getD (20 + 4 * i.val) 0 = c.rtcLatched.get i := by
  fin_cases i <;> exact (BitVec.ofNat_toNat 8 _).trans (BitVec.setWidth_eq _)

/-- Registers under their masks are restored from a block that holds each of them in its slot. -/
theorem rtcFromBlock_eq {bytes : List Byte} {at0 : Nat} {r : Rtc} (hm : r.masked = true)
    (h : ∀ i : Fin 5, bytes.getD (at0 + 4 * i.val) 0 = r.get i) : rtcFromBlock bytes at0 = r :=
  Rtc.ext_get fun i => by rw [rtcFromBlock_get, h, Rtc.get_masked hm]

theorem append_byte_toNat {n : Nat} (x : BitVec n) (b : Byte) : (x ++ b).toNat = x.toNat * 256 + b.toNat := by
  rw [BitVec.toNat_append, ← Nat.shiftLeft_add_eq_or_of_lt b.isLt, Nat.shiftLeft_eq]

theorem rtcBlock_stamp (c : Cart) : stampFromBlock (rtcBlock c) 40 = c.rtcStamp := by
  have hv := c.rtcStamp.isLt
  generalize hn : c.rtcStamp.toNat = v at hv
  have bytes : stampFromBlock (rtcBlock c) 40 = BitVec.ofNat 8 (v / 256 / 256 / 256) ++ BitVec.ofNat 8 (v / 256 / 256) ++
      BitVec.ofNat 8 (v / 256) ++ BitVec.ofNat 8 v := by rw [← hn]; rfl
  refine BitVec.eq_of_toNat_eq ?_
  rw [bytes, hn, append_byte_toNat, append_byte_toNat, append_byte_toNat]
  simp only [BitVec.toNat_ofNat]
  omega

/-- The part of a save block that both MBC3 kinds have: the 32768 bytes of cartridge RAM (R512). -/
def ramBlock (c : Cart) : List Byte := (List.range 0x8000).map c.ram.read

theorem ramBlock_length (c : Cart) : (ramBlock c).length = 0x8000 := by rw [ramBlock, List.length_map, List.length_range]

/-- Behind the RAM bytes a block reads as its clock part. -/
theorem getD_ramBlock_append (c : Cart) (block : List Byte) (k : Nat) :
    (ramBlock c ++ block).getD (0x8000 + k) 0 = block.getD k 0 := by
  rw [List.getD_append_right _ _ _ _ (by rw [ramBlock_length]; omega), ramBlock_length, Nat.add_sub_cancel_left]

theorem stampFromBlock_ramBlock_append (c : Cart) (block : List Byte) (k : Nat) :
    stampFromBlock (ramBlock c ++ block) (0x8000 + k) = stampFromBlock block k := by
  simp only [stampFromBlock, Nat.add_assoc, getD_ramBlock_append]

theorem saveSRAM_mbc3 {s : State} (h : s.params.cartKind = .mbc3) : saveSRAM s = ramBlock s.cart := by
  rw [saveSRAM, h]; rfl

theorem saveSRAM_mbc3Timer {s : State} (h : s.params.cartKind = .mbc3Timer) :
    saveSRAM s = ramBlock s.cart ++ rtcBlock s.cart := by
  rw [saveSRAM, h]; rfl

theorem loadSRAM_of_length_ram {block : List Byte} {s : State} (hk : hasRam s.params.cartKind = true)
    (hl : block.length = 32768) :
    loadSRAM block s = { s with cart := { s.cart with ram := Memory.ofBytes (block.take 0x8000) } } := by
  simp [loadSRAM, hk, hl]

theorem loadSRAM_of_length_timer {block : List Byte} {s : State} (hk : s.params.cartKind = .mbc3Timer)
    (hl : block.length = 32816) : loadSRAM block s = { s with cart := { s.cart with
      ram := Memory.ofBytes (block.take 0x8000), rtcLive := rtcFromBlock block 32768
      rtcLatched := rtcFromBlock block 32788, rtcStamp := stampFromBlock block 32808 } } := by
  simp [loadSRAM, hk, hl]

theorem loadSRAM_of_length_other {block : List Byte} {s : State} (h : block.length ≠ 32768) (h' : block.length ≠ 32816) :
    loadSRAM block s = s := by
  simp [loadSRAM, h, h']

/-- The RAM bytes of a block restore the RAM, whatever stands behind them. -/
theorem State.Inv.ofBytes_ramBlock {s : State} (h : s.Inv) (block : List Byte) :
    Memory.ofBytes ((ramBlock s.cart ++ block).take 0x8000) = s.cart.ram := by
  rw [List.take_left' (ramBlock_length s.cart)]
  exact Memory.ofBytes_map_read h.ram_wf h.ram_range

/-- Settles O14: each part of the saved block, read at its place, restores the field that it was written from. -/
theorem saveBlockRoundTrip : Obligations.SaveBlockRoundTrip := by
  refine ⟨fun s t hs _ hram hkind => ?_, fun block s h h' => loadSRAM_of_length_other h h'⟩
  cases hk : s.params.cartKind with
  | romOnly | mbc1 => simp [hk, hasRam] at hram
  | mbc3 =>
    rw [saveSRAM_mbc3 hk, loadSRAM_of_length_ram (by rw [hkind, hram]) (ramBlock_length s.cart)]
    exact ⟨by simpa using hs.ofBytes_ramBlock [], nofun⟩
  | mbc3Timer =>
    rw [saveSRAM_mbc3Timer hk, loadSRAM_of_length_timer (hkind.trans hk)
      (by rw [List.length_append, ramBlock_length, rtcBlock_length])]
    dsimp only
    refine ⟨hs.ofBytes_ramBlock (rtcBlock s.cart), fun _ => ⟨rtcFromBlock_eq hs.live_masked fun i => ?_,
      rtcFromBlock_eq hs.latched_masked fun i => ?_, ?_⟩⟩
    · exact (getD_ramBlock_append _ _ _).trans (rtcBlock_live s.cart i)
    · rw [show 32788 + 4 * i.val = 0x8000 + (20 + 4 * i.val) by omega, getD_ramBlock_append]
      exact rtcBlock_latched s.cart i
    · rw [show 32808 = 0x8000 + 40 from rfl, stampFromBlock_ramBlock_append]
      exact rtcBlock_stamp s.cart

end Sys2Proof.Machine
end

section
/-! SUPPORT. What each instruction may write, family by family (`footprint`), and the CPU's registers through the meanings
(O58, O16, O17). -/

namespace Sys2Proof.Machine

/-! The footprint of an instruction -/

/-- What an instruction may write: 8-bit registers, flags, SP, IME and `halted`, the fatal error's latch, and the addresses stored
to. -/
structure Footprint where
  regs : List Reg8 := []
  flags : Byte := 0
  sp : Bool := false
  control : Bool := false
  latch : Bool := false
  stores : State → List Word := fun _ => []

/-- The instructions that write IME or `halted` (R351, R353, R354, R339). -/
def writesControl (i : Instr) : Bool :=
  match i with
  | .ei | .di | .reti | .halt => true
  | _ => false

/-- The footprint that the frame statements name. -/
def footprint (i : Instr) : Footprint where
  regs := regsWritten i
  flags := flagsWritten i
  sp := writesSp i
  control := writesControl i
  latch := i.isUnrecognised
  stores := storeAddrs i

/-- The registers of an operand location (R134). -/
def locWrites (x : Loc8) : List Reg8 :=
  match x with
  | .reg r => [r]
  | .atHL => []

/-- The address of an operand location that is a byte of memory (R134). -/
def locStores (x : Loc8) (s : State) : List Word :=
  match x with
  | .reg _ => []
  | .atHL => [s.hl]

/-- The 8-bit registers of a pair (R135). -/
def pairWrites (p : Pair) : List Reg8 :=
  match p with
  | .bc => [.b, .c]
  | .de => [.d, .e]
  | .hl => [.h, .l]
  | .sp => []

/-- The 8-bit registers of a stack pair; F is no `Reg8` (R136). -/
def stackPairWrites (q : StackPair) : List Reg8 :=
  match q with
  | .bc => [.b, .c]
  | .de => [.d, .e]
  | .hl => [.h, .l]
  | .af => [.a]

/-- The registers that an access through an address register steps (R167, R168, R171, R172). -/
def addrWrites (y : AddrReg) : List Reg8 :=
  match y with
  | .hlInc | .hlDec => [.h, .l]
  | .bc | .de | .highC => []

/-! The footprint of each family, read off its encodings; that of an instruction outside the families evaluates by `rfl` -/

section
variable (x : Loc8) (n : Byte) (nn : Word) (p : Pair) (q : StackPair) (b : Fin 8) (cc : Cond) (y : AddrReg)
theorem footprint_ldRegReg (dst src : Reg8) : footprint (Instr.ldRegReg dst src) = { regs := [dst] } := by
  cases dst <;> cases src <;> rfl
theorem footprint_ldRegAtHL (dst : Reg8) : footprint (Instr.ldRegAtHL dst) = { regs := [dst] } := by
  cases dst <;> rfl
theorem footprint_ldAtHLReg (src : Reg8) : footprint (Instr.ldAtHLReg src) = { stores := fun s => [s.hl] } := by
  cases src <;> rfl
theorem footprint_ldLocImm : footprint (Instr.ldLocImm x n) = { regs := locWrites x, stores := locStores x } := by
  rcases x with (_ | _ | _ | _ | _ | _ | _) | _ <;> rfl
theorem footprint_ldAtA : footprint (Instr.ldAtA y) = { regs := addrWrites y, stores := fun s => [addrOf y s] } := by
  cases y <;> rfl
theorem footprint_ldAAt : footprint (Instr.ldAAt y) = { regs := .a :: addrWrites y } := by
  cases y <;> rfl
theorem footprint_ldPairImm : footprint (Instr.ldPairImm p nn) = { regs := pairWrites p, sp := p = .sp } := by
  have hf : fieldsOf (Instr.ldPairImm p nn) = fieldsOf (Instr.ldPairImm p 0) := by cases p <;> rfl
  have immediate_unused : footprint (Instr.ldPairImm p nn) = footprint (Instr.ldPairImm p 0) := by
    simp only [footprint, regsWritten, flagsWritten, writesSp, hf]
    cases p <;> rfl
  rw [immediate_unused]
  cases p <;> rfl
theorem footprint_push : footprint (Instr.push q) = { sp := true, stores := pushAddrs } := by cases q <;> rfl
theorem footprint_pop : footprint (Instr.pop q) =
    { regs := stackPairWrites q, flags := if q = .af then 0xF0 else 0, sp := true } := by
  cases q <;> rfl
theorem footprint_alu (op : AluOp) : footprint (Instr.alu op x) =
    { regs := if op = .cp then [] else [.a], flags := 0xF0 } := by
  cases op <;> rcases x with (_ | _ | _ | _ | _ | _ | _) | _ <;> rfl
theorem footprint_aluImm (op : AluOp) : footprint (Instr.aluImm op n) =
    { regs := if op = .cp then [] else [.a], flags := 0xF0 } := by
  cases op <;> rfl
theorem footprint_inc : footprint (Instr.inc x) = { regs := locWrites x, flags := 0xE0, stores := locStores x } := by
  rcases x with (_ | _ | _ | _ | _ | _ | _) | _ <;> rfl
theorem footprint_dec : footprint (Instr.dec x) = { regs := locWrites x, flags := 0xE0, stores := locStores x } := by
  rcases x with (_ | _ | _ | _ | _ | _ | _) | _ <;> rfl
theorem footprint_incPair : footprint (Instr.incPair p) = { regs := pairWrites p, sp := p = .sp } := by
  cases p <;> rfl
theorem footprint_decPair : footprint (Instr.decPair p) = { regs := pairWrites p, sp := p = .sp } := by
  cases p <;> rfl
theorem footprint_addHLPair : footprint (Instr.addHLPair p) = { regs := [.h, .l], flags := 0x70 } := by
  cases p <;> rfl
theorem footprint_rot (op : RotOp) :
    footprint (Instr.rot op x) = { regs := locWrites x, flags := 0xF0, stores := locStores x } := by
  cases op <;> rcases x with (_ | _ | _ | _ | _ | _ | _) | _ <;> rfl
theorem footprint_bit : footprint (Instr.bit b x) = { flags := 0xE0 } := by
  fin_cases b <;> rcases x with (_ | _ | _ | _ | _ | _ | _) | _ <;> rfl
theorem footprint_res : footprint (Instr.res b x) = { regs := locWrites x, stores := locStores x } := by
  fin_cases b <;> rcases x with (_ | _ | _ | _ | _ | _ | _) | _ <;> rfl
theorem footprint_set : footprint (Instr.set b x) = { regs := locWrites x, stores := locStores x } := by
  fin_cases b <;> rcases x with (_ | _ | _ | _ | _ | _ | _) | _ <;> rfl
theorem footprint_jrCond : footprint (Instr.jrCond cc n) = {} := by
  cases cc <;> rfl
theorem footprint_jpCond : footprint (Instr.jpCond cc nn) = {} := by
  cases cc <;> rfl
theorem footprint_callCond : footprint (Instr.callCond cc nn) =
    { sp := true, stores := fun s => if condHolds cc s then pushAddrs s else [] } := by
  cases cc <;> rfl
theorem footprint_retCond : footprint (Instr.retCond cc) = { sp := true } := by
  cases cc <;> rfl
theorem footprint_rst (t : Fin 8) : footprint (Instr.rst t) = { sp := true, stores := pushAddrs } := by
  fin_cases t <;> rfl
theorem footprint_ldAtNNA : footprint (.ldAtNNA nn) = { stores := fun _ => [nn] } := by
  have hs : storeAddrs (.ldAtNNA nn) = fun _ => [immWord (.ldAtNNA nn)] := rfl
  have hw : immWord (.ldAtNNA nn) = nn := joinBytes_hiByte_loByte nn
  rw [footprint, hs, hw]
  rfl
theorem footprint_ldAtNNSP : footprint (.ldAtNNSP nn) = { stores := fun _ => [nn, nn + 1] } := by
  have hs : storeAddrs (.ldAtNNSP nn) = fun _ => [immWord (.ldAtNNSP nn), immWord (.ldAtNNSP nn) + 1] := rfl
  have hw : immWord (.ldAtNNSP nn) = nn := joinBytes_hiByte_loByte nn
  rw [footprint, hs, hw]
  rfl
theorem footprint_unrecognised {i : Instr} (h : i.isUnrecognised = true) : footprint i = { latch := true } := by
  unfold Instr.isUnrecognised at h
  split at h
  case h_12 => exact absurd h Bool.false_ne_true
  all_goals rfl
end

/-! The CPU's registers -/

/-- Between `s` and `t` the CPU changed no more than footprint `w` allows, PC and the cycle count aside; F's low nibble, zero
before, is zero after (R35). -/
structure CpuFrame (w : Footprint) (s t : State) : Prop where
  reg8 : ∀ r, r ∉ w.regs → t.reg8 r = s.reg8 r
  sp : w.sp = false → t.cpu.sp = s.cpu.sp
  flags : s.cpu.f &&& 0x0F = 0 → t.cpu.f &&& 0x0F = 0 ∧ t.cpu.f &&& ~~~w.flags = s.cpu.f &&& ~~~w.flags
  control : w.control = false → t.cpu.ime = s.cpu.ime ∧ t.cpu.halted = s.cpu.halted
  latch : w.latch = false → t.cpu.fault = s.cpu.fault

theorem CpuFrame.refl (w : Footprint) (s : State) : CpuFrame w s s :=
  ⟨fun _ _ => rfl, fun _ => rfl, fun h => ⟨h, rfl⟩, fun _ => ⟨rfl, rfl⟩, fun _ => rfl⟩

theorem CpuFrame.trans {w : Footprint} {s t u : State} (h : CpuFrame w s t) (h' : CpuFrame w t u) : CpuFrame w s u where
  reg8 r hr := (h'.reg8 r hr).trans (h.reg8 r hr)
  sp hw := (h'.sp hw).trans (h.sp hw)
  flags hf :=
    have ht := h.flags hf
    have hu := h'.flags ht.1
    ⟨hu.1, hu.2.trans ht.2⟩
  control hw := ⟨(h'.control hw).1.trans (h.control hw).1, (h'.control hw).2.trans (h.control hw).2⟩
  latch hw := (h'.latch hw).trans (h.latch hw)

theorem getLsbD_of_low {v : Byte} (h : v &&& 0x0F = 0) {i : Nat} (hi : i < 4) : v.getLsbD i = false := by
  have hm : (0x0F#8).getLsbD i = true := by interval_cases i <;> rfl
  have e := congrArg (·.getLsbD i) h
  simpa only [BitVec.getLsbD_and, hm, Bool.and_true, BitVec.ofNat_eq_ofNat, BitVec.getLsbD_zero] using e

theorem packFlags_low (z n h c : Bool) : packFlags z n h c &&& 0x0F = 0 :=
  packFlags_masked z n h c ▸ masked_low (packFlags z n h c)

/-- A flag byte agrees with a byte of zero low nibble wherever the flags that mask `m` leaves out are the same in both. -/
theorem packFlags_agree {f m : Byte} (hf : f &&& 0x0F = 0) {z n h c : Bool} (hz : m.getLsbD 7 = true ∨ z = f.getLsbD 7)
    (hn : m.getLsbD 6 = true ∨ n = f.getLsbD 6) (hh : m.getLsbD 5 = true ∨ h = f.getLsbD 5)
    (hc : m.getLsbD 4 = true ∨ c = f.getLsbD 4) : packFlags z n h c &&& ~~~m = f &&& ~~~m := by
  obtain ⟨p7, p6, p5, p4⟩ := packFlags_bits z n h c
  have agree : ∀ i, i < 8 → m.getLsbD i = true ∨ (packFlags z n h c).getLsbD i = f.getLsbD i := by
    intro i hi
    obtain hi | rfl | rfl | rfl | rfl : i < 4 ∨ i = 4 ∨ i = 5 ∨ i = 6 ∨ i = 7 := by omega
    · exact .inr ((getLsbD_of_low (packFlags_low z n h c) hi).trans (getLsbD_of_low hf hi).symm)
    · rwa [p4]
    · rwa [p5]
    · rwa [p6]
    · rwa [p7]
  refine BitVec.eq_of_getLsbD_eq fun i hi => ?_
  rw [BitVec.getLsbD_and, BitVec.getLsbD_and, BitVec.getLsbD_not]
  rcases agree i hi with e | e <;> simp only [e, Bool.not_true, Bool.and_false]

/-! One lemma per operation: what it may write is in the footprint -/

section
variable {w : Footprint} {s t : State}

/-- A change of PC, the cycle count and SP. -/
theorem CpuFrame.of_cpu (h : CpuFrame w s t) {u : State} {sp pc : Word} {cyc : Nat}
    (e : u.cpu = { t.cpu with sp := sp, pc := pc, cyc := cyc }) (hsp : w.sp = true ∨ sp = t.cpu.sp) : CpuFrame w s u := by
  refine h.trans ⟨fun r _ => by cases r <;> simp only [State.reg8, e], fun hw => ?_, fun hf => by simp only [e, hf, true_and],
    fun _ => by simp only [e, true_and], fun _ => by rw [e]⟩
  rcases hsp with hs | hs
  · simp [hw] at hs
  · rw [e]; exact hs

theorem CpuFrame.tick (h : CpuFrame w s t) (n : Nat) : CpuFrame w s (tick n t) := h.of_cpu (tick_cpu n t) (.inr rfl)
theorem CpuFrame.setPc (h : CpuFrame w s t) (v : Word) : CpuFrame w s (t.setPc v) :=
  h.of_cpu (cyc := t.cpu.cyc) rfl (.inr rfl)
theorem CpuFrame.memRead (h : CpuFrame w s t) (a : Word) : CpuFrame w s (memRead a t).2 :=
  h.of_cpu (memRead_cpu a t) (.inr rfl)
theorem CpuFrame.memWrite (h : CpuFrame w s t) (a : Word) (v : Byte) : CpuFrame w s (memWrite a v t) :=
  h.of_cpu (memWrite_cpu a v t) (.inr rfl)
theorem CpuFrame.memWrite2 (h : CpuFrame w s t) (a v : Word) : CpuFrame w s (memWrite2 a v t) :=
  h.of_cpu (memWrite2_cpu a v t) (.inr rfl)
theorem CpuFrame.readLoc8 (h : CpuFrame w s t) (x : Loc8) : CpuFrame w s (readLoc8 x t).2 :=
  h.of_cpu (readLoc8_cpu x t) (.inr rfl)
theorem CpuFrame.setSp (h : CpuFrame w s t) (v : Word) (hw : w.sp = true) : CpuFrame w s (t.setSp v) :=
  h.of_cpu (cyc := t.cpu.cyc) rfl (.inl hw)
theorem CpuFrame.push16 (h : CpuFrame w s t) (v : Word) (hw : w.sp = true) : CpuFrame w s (push16 v t) :=
  h.of_cpu (push16_cpu v t) (.inl hw)
theorem CpuFrame.pop16 (h : CpuFrame w s t) (hw : w.sp = true) : CpuFrame w s (pop16 t).2 :=
  h.of_cpu (pop16_cpu t) (.inl hw)

theorem CpuFrame.setReg8 (h : CpuFrame w s t) (r : Reg8) (v : Byte) (hr : r ∈ w.regs) : CpuFrame w s (t.setReg8 r v) :=
  h.trans ⟨fun x hx => by rw [State.reg8_setReg8, if_neg (ne_of_mem_of_not_mem hr hx).symm], fun _ => by simp,
    fun hf => by simpa using hf, fun _ => by simp, fun _ => by simp⟩

theorem CpuFrame.writeLoc8 (h : CpuFrame w s t) (x : Loc8) (v : Byte) (hx : locWrites x ⊆ w.regs) :
    CpuFrame w s (writeLoc8 x v t) := by
  cases x with
  | reg r => exact h.setReg8 r v (hx (List.mem_singleton_self r))
  | atHL => exact h.memWrite _ v

/-- Both bytes of a pair are in the footprint, and so is SP where the pair is SP. -/
theorem CpuFrame.setPair (h : CpuFrame w s t) (p : Pair) (v : Word) (hp : pairWrites p ⊆ w.regs) (hw : p = .sp → w.sp = true) :
    CpuFrame w s (t.setPair p v) := by
  cases p with
  | bc => exact (h.setReg8 .b (hiByte v) (hp (by decide))).setReg8 .c (loByte v) (hp (by decide))
  | de => exact (h.setReg8 .d (hiByte v) (hp (by decide))).setReg8 .e (loByte v) (hp (by decide))
  | hl => exact (h.setReg8 .h (hiByte v) (hp (by decide))).setReg8 .l (loByte v) (hp (by decide))
  | sp => exact h.setSp v (hw rfl)

theorem CpuFrame.afterAddr (h : CpuFrame w s t) (y : AddrReg) (hy : addrWrites y ⊆ w.regs) : CpuFrame w s (afterAddr y t) := by
  cases y with
  | bc | de | highC => exact h
  | hlInc | hlDec => exact h.setPair .hl _ hy nofun

/-- The write path to F, where all four flags are in the footprint. -/
theorem CpuFrame.setF (h : CpuFrame w s t) (v : Byte) (hw : w.flags = 0xF0) : CpuFrame w s (t.setF v) :=
  h.trans ⟨fun r _ => State.reg8_setF r v t, fun _ => rfl, fun hf => ⟨masked_low v, by
    rw [hw]; exact (masked_low v).trans hf.symm⟩, fun _ => ⟨rfl, rfl⟩, fun _ => rfl⟩

/-- Each flag written is in the footprint's mask or keeps its value. -/
theorem CpuFrame.setFlags (h : CpuFrame w s t) (m : Byte) (hw : w.flags = m) {z n hf c : Bool}
    (hz : m.getLsbD 7 = true ∨ z = t.flagZ) (hn : m.getLsbD 6 = true ∨ n = t.flagN)
    (hh : m.getLsbD 5 = true ∨ hf = t.flagH) (hc : m.getLsbD 4 = true ∨ c = t.flagC) :
    CpuFrame w s (t.setFlags z n hf c) :=
  h.trans ⟨fun r _ => State.reg8_setF r _ t, fun _ => rfl, fun hl => ⟨masked_low _, by
    rw [State.setFlags_f, packFlags_masked, hw]; exact packFlags_agree hl hz hn hh hc⟩, fun _ => ⟨rfl, rfl⟩, fun _ => rfl⟩

theorem CpuFrame.writeStackPair (h : CpuFrame w s t) (q : StackPair) (v : Word) (hq : stackPairWrites q ⊆ w.regs)
    (hw : q = .af → w.flags = 0xF0) : CpuFrame w s (writeStackPair q v t) := by
  cases q with
  | bc => exact h.setPair .bc v hq nofun
  | de => exact h.setPair .de v hq nofun
  | hl => exact h.setPair .hl v hq nofun
  | af => exact (h.setReg8 .a (hiByte v) (hq (by decide))).setF (loByte v) (hw rfl)

/-- CP keeps A, which its footprint leaves out (R228). -/
theorem CpuFrame.aluApply (h : CpuFrame w s t) (op : AluOp) (v : Byte) (ha : op ≠ .cp → .a ∈ w.regs) (hw : w.flags = 0xF0) :
    CpuFrame w s (aluApply op v t) := by
  by_cases hop : op = .cp
  · subst hop; exact h.setF _ hw
  · exact (h.setReg8 .a _ (ha hop)).setF _ hw

theorem CpuFrame.setIme (h : CpuFrame w s t) (v : Bool) (hw : w.control = true) : CpuFrame w s (t.setIme v) :=
  h.trans ⟨fun r _ => by cases r <;> rfl, fun _ => rfl, fun hf => ⟨hf, rfl⟩, fun e => by simp [hw] at e, fun _ => rfl⟩
theorem CpuFrame.setHalted (h : CpuFrame w s t) (v : Bool) (hw : w.control = true) : CpuFrame w s (t.setHalted v) :=
  h.trans ⟨fun r _ => by cases r <;> rfl, fun _ => rfl, fun hf => ⟨hf, rfl⟩, fun e => by simp [hw] at e, fun _ => rfl⟩
theorem CpuFrame.unrecognised (h : CpuFrame w s t) (b : Byte) (hw : w.latch = true) : CpuFrame w s (unrecognised b t) :=
  h.trans ⟨fun r _ => by cases r <;> rfl, fun _ => rfl, fun hf => ⟨hf, rfl⟩, fun _ => ⟨rfl, rfl⟩, fun e => by simp [hw] at e⟩
end

/-- Every instruction changes of the CPU no more than its footprint. -/
theorem Meaning.cpuFrame {i : Instr} {op : State → State} (hm : Meaning i op) (s : State) :
    CpuFrame (footprint i) s (op s) := by
  have h := CpuFrame.refl (footprint i) s
  cases hm with
  | ldRegReg dst src => rw [footprint_ldRegReg] at h ⊢; exact h.setReg8 dst _ (List.mem_singleton_self dst)
  | ldRegAtHL dst =>
    rw [footprint_ldRegAtHL] at h ⊢; exact (h.readLoc8 .atHL).setReg8 dst _ (List.mem_singleton_self dst)
  | ldAtHLReg src => exact h.memWrite _ _
  | ldLocImm x n => rw [footprint_ldLocImm] at h ⊢; exact h.writeLoc8 x n (List.Subset.refl _)
  | ldAtA y => rw [footprint_ldAtA] at h ⊢; exact (h.memWrite _ _).afterAddr y (List.Subset.refl _)
  | ldAAt y =>
    rw [footprint_ldAAt] at h ⊢
    exact ((h.memRead _).setReg8 .a _ List.mem_cons_self).afterAddr y (List.subset_cons_self _ _)
  | ldPairImm p nn =>
    rw [footprint_ldPairImm] at h ⊢; exact h.setPair p nn (List.Subset.refl _) decide_eq_true
  | push q => rw [footprint_push] at h ⊢; exact (h.tick 4).push16 _ rfl
  | pop q =>
    rw [footprint_pop] at h ⊢; exact (h.pop16 rfl).writeStackPair q _ (List.Subset.refl _) fun hq => if_pos hq
  | alu op x =>
    rw [footprint_alu] at h ⊢; exact (h.readLoc8 x).aluApply op _ (fun hop => by simp [hop]) rfl
  | aluImm op n => rw [footprint_aluImm] at h ⊢; exact h.aluApply op n (fun hop => by simp [hop]) rfl
  | inc x =>
    rw [footprint_inc] at h ⊢
    exact ((h.readLoc8 x).setFlags 0xE0 rfl (.inl rfl) (.inl rfl) (.inl rfl) (.inr rfl)).writeLoc8 x _ (List.Subset.refl _)
  | dec x =>
    rw [footprint_dec] at h ⊢
    exact ((h.readLoc8 x).setFlags 0xE0 rfl (.inl rfl) (.inl rfl) (.inl rfl) (.inr rfl)).writeLoc8 x _ (List.Subset.refl _)
  | incPair p =>
    rw [footprint_incPair] at h ⊢; exact (h.setPair p _ (List.Subset.refl _) decide_eq_true).tick 4
  | decPair p =>
    rw [footprint_decPair] at h ⊢; exact (h.setPair p _ (List.Subset.refl _) decide_eq_true).tick 4
  | addHLPair p =>
    rw [footprint_addHLPair] at h ⊢
    exact ((h.setFlags 0x70 rfl (.inr rfl) (.inl rfl) (.inl rfl) (.inl rfl)).setPair .hl _ (List.Subset.refl _) nofun).tick 4
  | rot op x => rw [footprint_rot] at h ⊢; exact ((h.readLoc8 x).setF _ rfl).writeLoc8 x _ (List.Subset.refl _)
  | bit b x =>
    rw [footprint_bit] at h ⊢; exact (h.readLoc8 x).setFlags 0xE0 rfl (.inl rfl) (.inl rfl) (.inl rfl) (.inr rfl)
  | res b x => rw [footprint_res] at h ⊢; exact (h.readLoc8 x).writeLoc8 x _ (List.Subset.refl _)
  | set b x => rw [footprint_set] at h ⊢; exact (h.readLoc8 x).writeLoc8 x _ (List.Subset.refl _)
  | jrCond cc e =>
    rcases jrCond_cases cc s e with eq | eq <;> rw [eq]
    exacts [(h.setPc _).tick 4, h]
  | jpCond cc nn =>
    rcases jpCond_cases cc s nn with eq | eq <;> rw [eq]
    exacts [(h.setPc nn).tick 4, h]
  | callCond cc nn =>
    rw [footprint_callCond] at h ⊢
    rcases callCond_cases cc s nn with ⟨_, eq⟩ | ⟨_, eq⟩ <;> rw [eq]
    exacts [((h.tick 4).push16 _ rfl).setPc nn, h]
  | retCond cc =>
    rw [footprint_retCond] at h ⊢
    rcases retCond_cases cc s with eq | eq <;> rw [eq]
    exacts [(((h.tick 4).pop16 rfl).setPc _).tick 4, h.tick 4]
  | rst y => rw [footprint_rst] at h ⊢; exact ((h.tick 4).push16 _ rfl).setPc _
  | ldhAtNA n => exact h.memWrite _ _
  | ldAtNNA nn => exact h.memWrite _ _
  | ldhAAtN n => exact (h.memRead (highPage n)).setReg8 .a _ (List.mem_singleton_self _)
  | ldAAtNN nn => exact (h.memRead nn).setReg8 .a _ (List.mem_singleton_self _)
  | ldAtNNSP nn => exact h.memWrite2 _ _
  | ldHLSPPlusE e => exact ((h.setF _ rfl).setPair .hl _ (List.Subset.refl _) nofun).tick 4
  | ldSPHL => exact (h.setSp _ rfl).tick 4
  | daa =>
    exact (h.setReg8 .a _ (List.mem_singleton_self _)).setFlags 0xB0 rfl (.inl rfl) (.inr rfl) (.inl rfl) (.inl rfl)
  | cpl =>
    exact (h.setReg8 .a _ (List.mem_singleton_self _)).setFlags 0x60 rfl (.inr rfl) (.inl rfl) (.inl rfl) (.inr rfl)
  | scf | ccf => exact h.setFlags 0x70 rfl (.inr rfl) (.inl rfl) (.inl rfl) (.inl rfl)
  | addSPE e => exact ((h.setF _ rfl).setSp _ rfl).tick 8
  | rlca | rrca | rla | rra => exact (h.setReg8 .a _ (List.mem_singleton_self _)).setF _ rfl
  | jr e => exact (h.setPc _).tick 4
  | jp nn => exact (h.setPc nn).tick 4
  | ret => exact ((h.pop16 rfl).setPc _).tick 4
  | call nn => exact ((h.tick 4).push16 _ rfl).setPc nn
  | reti => exact (((h.pop16 rfl).setPc _).tick 4).setIme true rfl
  | jpHL => exact h.setPc _
  | nop | stop => exact h
  | halt => exact h.setHalted true rfl
  | di => exact h.setIme false rfl
  | ei => exact h.setIme true rfl
  | unrecognised i hu => rw [footprint_unrecognised hu] at h ⊢; exact h.unrecognised _ rfl

theorem exec_cpuFrame {i : Instr} {s t : State} (h : exec i s = .next t) : CpuFrame (footprint i) s t := by
  obtain ⟨op, hm, rfl⟩ := exec_next h
  exact hm.cpuFrame s

/-- Settles O58, field by field of the frame. -/
theorem registerAndFlagFrame : Obligations.RegisterAndFlagFrame := by
  intro i s t h
  have hf := exec_cpuFrame h
  refine ⟨hf.reg8, hf.sp, fun hl => (hf.flags hl).2, fun hw => ?_⟩
  have hu : i.isUnrecognised = false := by simpa [Instr.wellFormed] using hw
  exact hf.latch hu

/-! F's low nibble through the step (R35) -/

theorem fetchRest_f (p : Plan) (s : State) : (fetchRest p s).2.cpu.f = s.cpu.f := by
  cases p <;> simp [fetchRest]

theorem fetchInstr_f (s : State) : (fetchInstr s).2.cpu.f = s.cpu.f := by
  rw [fetchInstr_eq, fetchRest_f, fetch8_cpu]

theorem interruptCheck_f (s : State) : (interruptCheck s).cpu.f = s.cpu.f := by
  rcases interruptCheck_cases s with ⟨i, _, _, _, _, e⟩ | e | e <;> rw [e]
  · rw [enterInterrupt_cpu]; rfl
  · rfl

theorem step_f_low {s t : State} (hs : s.cpu.f &&& 0x0F = 0) (hstep : step s = .next t) : t.cpu.f &&& 0x0F = 0 := by
  have fetched : (fetchInstr (betweenSteps s)).2.cpu.f &&& 0x0F = 0 := by rwa [fetchInstr_f, betweenSteps_cpu]
  obtain ⟨_, ⟨_, rfl⟩ | ⟨_, u, hu, h⟩⟩ := step_cases hstep
  · rwa [interruptCheck_f, tick_cpu, betweenSteps_cpu]
  · have hl := ((exec_cpuFrame hu).flags fetched).1
    obtain ⟨_, rfl⟩ | ⟨_, rfl⟩ := h
    · rwa [interruptCheck_f]
    · exact hl

/-- Settles O16: the frame of every instruction keeps the low nibble zero, and neither fetches nor the interrupt check touch F. -/
theorem flagLowNibbleStaysZero : Obligations.FlagLowNibbleStaysZero :=
  ⟨fun _ _ _ hs h => ((exec_cpuFrame h).flags hs).1,
    fun _ _ hs h => step_f_low hs h,
    fun v s => State.setF_f s v,
    State.setAf_af,
    State.pair_setPair_same,
    fun v s => State.setPc_pc s v,
    fun s => ⟨pop .af s, exec_pop .af s, State.setAf_af (pop16 s).1 (pop16 s).2⟩⟩

/-! IME and `halted` (R36, R37) -/

theorem writesControl_cases {i : Instr} (h : writesControl i = true) : i = .ei ∨ i = .di ∨ i = .reti ∨ i = .halt := by
  unfold writesControl at h
  split at h
  · exact .inl rfl
  · exact .inr (.inl rfl)
  · exact .inr (.inr (.inl rfl))
  · exact .inr (.inr (.inr rfl))
  · exact absurd h Bool.false_ne_true

/-- Settles O17: the four instructions by their meanings, every other by its frame. -/
theorem controlBitsChangeOnlyBy : Obligations.ControlBitsChangeOnlyBy := by
  intro i s
  cases hi : writesControl i with
  | true =>
    obtain rfl | rfl | rfl | rfl := writesControl_cases hi
    · exact ⟨ei s, rfl, rfl, rfl⟩
    · exact ⟨di s, rfl, rfl, rfl⟩
    · exact ⟨reti s, rfl, by simp [reti], by simp [reti]⟩
    · exact ⟨halt s, rfl, rfl, rfl⟩
  | false =>
    obtain ⟨op, hm, hop⟩ := exec_meaning i
    obtain ⟨ime, halted⟩ := (hm.cpuFrame s).control hi
    refine ⟨op s, hop s, ?_, ?_⟩
    · rw [ime, if_neg (by rintro (rfl | rfl) <;> cases hi), if_neg (by rintro rfl; cases hi)]
    · rw [halted, if_neg (by rintro rfl; cases hi)]

end Sys2Proof.Machine
end

section
/-! SUPPORT. Memory through the meanings: an instruction changes only what passing time changes and the bytes behind the addresses
that it stores to (O59, O60). -/

namespace Sys2Proof.Machine

/-- The fields of the cartridge that only a command writes (R480 to R493). -/
def Cart.control (c : Cart) : BitVec 7 × Bool × Fin 4 × Bool × Fin 5 × Bool × Rtc :=
  (c.romBankNum, c.ramEnabled, c.ramBank, c.rtcMapped, c.rtcSel, c.latchArmed, c.rtcLatched)

theorem Cart.control_eq_iff (c c' : Cart) : c'.control = c.control ↔
    c'.romBankNum = c.romBankNum ∧ c'.ramEnabled = c.ramEnabled ∧ c'.ramBank = c.ramBank ∧ c'.rtcMapped = c.rtcMapped ∧
    c'.rtcSel = c.rtcSel ∧ c'.latchArmed = c.latchArmed ∧ c'.rtcLatched = c.rtcLatched := by
  simp only [Cart.control, Prod.mk.injEq]

theorem tick_cart_control (n : Nat) (s : State) : (tick n s).cart.control = s.cart.control :=
  (Cart.control_eq_iff _ _).2 (tick_control n s)

/-- Between `s` and `t` memory changed as passing time changes it, and by stores to the addresses `as`, whose storage is the one
of `s`. -/
structure StoresOnly (as : List Word) (s t : State) : Prop where
  params : t.params = s.params
  wf : s.mem.wf = true → t.mem.wf = true
  bytes : ∀ k, k ≠ 0xFF0F → (∀ a ∈ as, backing a s ≠ .mem k) → t.mem.read k = s.mem.read k
  ram_bytes : ∀ off, (∀ a ∈ as, backing a s ≠ .ram off) → t.cart.ram.read off = s.cart.ram.read off
  ram : as = [] → t.cart.ram = s.cart.ram
  ifByte : s.mem.wf = true → 0xFF0F ∉ as → ∃ m : Byte, t.ifByte = s.ifByte ||| m ∧ (∀ i, 3 ≤ i → m.getLsbD i = false) ∧
    (s.params.ext = .stub → ∀ i, i ≠ 2 → m.getLsbD i = false)
  timer : (∀ a ∈ as, a.toNat < 0xFF04 ∨ 0xFF08 ≤ a.toNat) → t.timer.tma = s.timer.tma ∧ t.timer.tac = s.timer.tac
  control : (∀ a ∈ as, 0x8000 ≤ a.toNat) → t.cart.control = s.cart.control

/-! A routed write -/

theorem routeWrite_timer (a : Word) (v : Byte) (s : State) (h : a.toNat < 0xFF04 ∨ 0xFF08 ≤ a.toNat) :
    (routeWrite a v s).timer = s.timer := by
  rcases routeWrite_state a v s with e | ⟨_, _, _, _, e⟩ | ⟨_, e⟩ | ⟨_, _, _, e⟩ | ⟨h1, h2, _⟩
  · rw [e]
  · rw [e]
  · rw [e]
  · rw [e]
  · omega

theorem routeWrite_control (a : Word) (v : Byte) (s : State) (h : 0x8000 ≤ a.toNat) :
    (routeWrite a v s).cart.control = s.cart.control := by
  rcases routeWrite_state a v s with e | ⟨_, _, _, _, e⟩ | ⟨h', _⟩ | ⟨_, _, _, e⟩ | ⟨_, _, e⟩
  · rw [e]
  · rw [e]
  · omega
  · rw [e]
    obtain ⟨c1, c2, c3, c4, c5, c6, c7, _⟩ := Cart.windowWrite_kept a v s.cart
    exact (Cart.control_eq_iff _ _).2 ⟨c1, c2, c3, c4, c5, c7, c6⟩
  · rw [e]

/-! Composition -/

theorem StoresOnly.of_eq {s t : State} (hm : t.mem = s.mem) (hc : t.cart = s.cart) (ht : t.timer = s.timer)
    (hp : t.params = s.params) : StoresOnly [] s t where
  params := hp
  wf h := hm ▸ h
  bytes _ _ _ := by rw [hm]
  ram_bytes _ _ := by rw [hc]
  ram _ := by rw [hc]
  ifByte _ _ := ⟨0, by rw [State.ifByte, State.ifByte, hm]; simp, fun _ _ => by simp, fun _ _ _ => by simp⟩
  timer _ := by rw [ht]; exact ⟨rfl, rfl⟩
  control _ := by rw [hc]

theorem StoresOnly.of_tick (n : Nat) (s : State) : StoresOnly [] s (tick n s) where
  params := tick_params n s
  wf := tick_wf n s
  bytes k hk _ := tick_bytes n s k hk
  ram_bytes _ _ := by rw [tick_ram]
  ram _ := tick_ram n s
  ifByte hw _ := by
    obtain ⟨m, hm, h3, hs, _⟩ := tick_if n s hw
    exact ⟨m, hm, h3, hs⟩
  timer _ := by simp
  control _ := tick_cart_control n s

theorem StoresOnly.of_memWrite (a : Word) (v : Byte) (s : State) : StoresOnly [a] s (memWrite a v s) where
  params := memWrite_params a v s
  wf := memWrite_wf a v s
  bytes k hk hb := memWrite_bytes a v s k (hb a (List.mem_singleton_self a)) hk
  ram_bytes off hb := memWrite_ram_bytes a v s off (hb a (List.mem_singleton_self a))
  ram h := by cases h
  ifByte hw ha := by
    obtain ⟨m, hm, h3, hs, _⟩ := memWrite_if a v s (fun e => ha (e ▸ List.mem_singleton_self a)) hw
    exact ⟨m, hm, h3, hs⟩
  timer ha := by
    rw [memWrite_eq, tick_timer, Timer.steps_tma, Timer.steps_tac,
      routeWrite_timer a v s (ha a (List.mem_singleton_self a))]
    exact ⟨rfl, rfl⟩
  control ha := (tick_cart_control 4 _).trans (routeWrite_control a v s (ha a (List.mem_singleton_self a)))

/-- Stores one after the other, where the first leave in place the storage behind the addresses of the second. -/
theorem StoresOnly.trans {as bs : List Word} {s t u : State} (h : StoresOnly as s t) (h' : StoresOnly bs t u)
    (hb : ∀ b ∈ bs, ∀ k, (backing b t = .mem k ↔ backing b s = .mem k) ∧ (backing b t = .ram k ↔ backing b s = .ram k)) :
    StoresOnly (as ++ bs) s u where
  params := h'.params.trans h.params
  wf hw := h'.wf (h.wf hw)
  bytes k hk hab := by
    rw [List.forall_mem_append] at hab
    exact (h'.bytes k hk fun b hm e => hab.2 b hm (((hb b hm k).1).1 e)).trans (h.bytes k hk hab.1)
  ram_bytes k hab := by
    rw [List.forall_mem_append] at hab
    exact (h'.ram_bytes k fun b hm e => hab.2 b hm (((hb b hm k).2).1 e)).trans (h.ram_bytes k hab.1)
  ram hab := by
    obtain ⟨ha, hb⟩ := List.append_eq_nil_iff.1 hab
    exact (h'.ram hb).trans (h.ram ha)
  ifByte hw hab := by
    rw [List.mem_append, not_or] at hab
    obtain ⟨m, hm, h3, hs⟩ := h.ifByte hw hab.1
    obtain ⟨m', hm', h3', hs'⟩ := h'.ifByte (h.wf hw) hab.2
    refine ⟨m ||| m', by rw [hm', hm, BitVec.or_assoc], fun i hi => ?_, fun hst i hi => ?_⟩
    · rw [BitVec.getLsbD_or, h3 i hi, h3' i hi]; rfl
    · rw [BitVec.getLsbD_or, hs hst i hi, hs' (h.params ▸ hst) i hi]; rfl
  timer hab := by
    rw [List.forall_mem_append] at hab
    exact ⟨(h'.timer hab.2).1.trans (h.timer hab.1).1, (h'.timer hab.2).2.trans (h.timer hab.1).2⟩
  control hab := by
    rw [List.forall_mem_append] at hab
    exact (h'.control hab.2).trans (h.control hab.1)

/-- What stands behind an address, after changes that store nothing. -/
theorem StoresOnly.backing {s t : State} (h : StoresOnly [] s t) (a : Word) : Machine.backing a t = Machine.backing a s := by
  obtain ⟨bank, enabled, ramBank, mapped, _⟩ := (Cart.control_eq_iff _ _).1 (h.control nofun)
  exact backing_congr a h.params bank enabled ramBank mapped

/-- Without stores memory is kept as passing time keeps it. -/
theorem StoresOnly.kept {s t : State} (h : StoresOnly [] s t) (hw : s.mem.wf = true) : MemoryKept s t := by
  obtain ⟨m, hm, h3, hs⟩ := h.ifByte hw nofun
  exact {
    params := h.params
    bytes := fun k hk => h.bytes k hk nofun
    if_high := fun i hi => by rw [hm, BitVec.getLsbD_or, h3 i hi, Bool.or_false]
    if_kept := fun i hi => by rw [hm, BitVec.getLsbD_or, hi, Bool.true_or]
    if_stub := fun hst i hi => by rw [hm, BitVec.getLsbD_or, hs hst i hi, Bool.or_false]
    ram := h.ram rfl
    control := (Cart.control_eq_iff _ _).1 (h.control nofun)
    tma := (h.timer nofun).1
    tac := (h.timer nofun).2 }

/-! One lemma per operation, after changes that store nothing -/

theorem StoresOnly.refl (s : State) : StoresOnly [] s s := .of_eq rfl rfl rfl rfl

section
variable {as : List Word} {s t : State}

theorem StoresOnly.quiet {u : State} (h : StoresOnly as s t) (h' : StoresOnly [] t u) : StoresOnly as s u :=
  as.append_nil ▸ h.trans h' nofun

theorem StoresOnly.stores {u : State} (h : StoresOnly [] s t) (h' : StoresOnly as t u) : StoresOnly as s u :=
  h.trans h' fun b _ k => by rw [h.backing b]; exact ⟨Iff.rfl, Iff.rfl⟩

theorem StoresOnly.tick (h : StoresOnly as s t) (n : Nat) : StoresOnly as s (tick n t) := h.quiet (.of_tick n t)
theorem StoresOnly.setReg8 (h : StoresOnly as s t) (r : Reg8) (v : Byte) : StoresOnly as s (t.setReg8 r v) :=
  h.quiet (.of_eq (by simp) (by simp) (by simp) (by simp))
theorem StoresOnly.setF (h : StoresOnly as s t) (v : Byte) : StoresOnly as s (t.setF v) := h.quiet (.of_eq rfl rfl rfl rfl)
theorem StoresOnly.setPair (h : StoresOnly as s t) (p : Pair) (v : Word) : StoresOnly as s (t.setPair p v) :=
  h.quiet (.of_eq (by simp) (by simp) (by simp) (by simp))
theorem StoresOnly.setPc (h : StoresOnly as s t) (v : Word) : StoresOnly as s (t.setPc v) := h.quiet (.of_eq rfl rfl rfl rfl)
theorem StoresOnly.setSp (h : StoresOnly as s t) (v : Word) : StoresOnly as s (t.setSp v) := h.quiet (.of_eq rfl rfl rfl rfl)
theorem StoresOnly.setIme (h : StoresOnly as s t) (v : Bool) : StoresOnly as s (t.setIme v) := h.quiet (.of_eq rfl rfl rfl rfl)
theorem StoresOnly.setHalted (h : StoresOnly as s t) (v : Bool) : StoresOnly as s (t.setHalted v) :=
  h.quiet (.of_eq rfl rfl rfl rfl)
theorem StoresOnly.memRead (h : StoresOnly as s t) (a : Word) : StoresOnly as s (memRead a t).2 :=
  (h.quiet (.of_eq (routeRead_mem a t) (routeRead_cart a t) (routeRead_timer a t) (routeRead_params a t))).tick 4
theorem StoresOnly.readLoc8 (h : StoresOnly as s t) (x : Loc8) : StoresOnly as s (readLoc8 x t).2 := by
  cases x with
  | reg r => exact h
  | atHL => exact h.memRead _
theorem StoresOnly.pop16 (h : StoresOnly as s t) : StoresOnly as s (pop16 t).2 := ((h.memRead _).memRead _).setSp _
theorem StoresOnly.writeStackPair (h : StoresOnly as s t) (q : StackPair) (v : Word) :
    StoresOnly as s (writeStackPair q v t) := h.quiet (.of_eq (by simp) (by simp) (by simp) (by simp))
theorem StoresOnly.afterAddr (h : StoresOnly as s t) (y : AddrReg) : StoresOnly as s (afterAddr y t) :=
  h.quiet (.of_eq (by simp) (by simp) (by simp) (by simp))
theorem StoresOnly.aluApply (h : StoresOnly as s t) (op : AluOp) (v : Byte) : StoresOnly as s (aluApply op v t) :=
  (h.setReg8 .a _).setF _

theorem StoresOnly.memWrite (h : StoresOnly [] s t) (a : Word) (v : Byte) : StoresOnly [a] s (memWrite a v t) :=
  h.stores (.of_memWrite a v t)

/-- The first of two adjacent bytes stored leaves the storage behind the second in place (`backing_memWrite_next`). -/
theorem StoresOnly.memWrite2 (h : StoresOnly [] s t) (a v : Word) : StoresOnly [a, a + 1] s (memWrite2 a v t) := by
  refine h.stores ((StoresOnly.of_memWrite a (loByte v) t).trans (.of_memWrite (a + 1) (hiByte v) _) fun b hb k => ?_)
  rw [List.mem_singleton.1 hb]
  exact ⟨backing_memWrite_next a _ t _ nofun, backing_memWrite_next a _ t _ nofun⟩

theorem StoresOnly.writeLoc8 (h : StoresOnly [] s t) (x : Loc8) (v : Byte) (hl : t.hl = s.hl) :
    StoresOnly (locStores x s) s (writeLoc8 x v t) := by
  cases x with
  | reg r => exact h.setReg8 r v
  | atHL => rw [locStores, ← hl]; exact h.memWrite t.hl v

theorem StoresOnly.push16 (h : StoresOnly [] s t) (v : Word) (hsp : t.cpu.sp = s.cpu.sp) :
    StoresOnly (pushAddrs s) s (push16 v t) := by
  rw [pushAddrs, ← hsp]
  exact (h.setSp (t.cpu.sp - 2)).memWrite2 _ v
end

theorem hl_readLoc8 (x : Loc8) (s : State) : (readLoc8 x s).2.hl = s.hl := by simp [State.hl, State.pair]

/-- Every instruction stores to the addresses of its footprint only. -/
theorem Meaning.storesOnly {i : Instr} {op : State → State} (hm : Meaning i op) (s : State) :
    StoresOnly ((footprint i).stores s) s (op s) := by
  have h := StoresOnly.refl s
  cases hm with
  | ldRegReg dst src => rw [footprint_ldRegReg]; exact h.setReg8 dst _
  | ldRegAtHL dst => rw [footprint_ldRegAtHL]; exact (h.readLoc8 .atHL).setReg8 dst _
  | ldAtHLReg src => rw [footprint_ldAtHLReg]; exact h.memWrite s.hl _
  | ldLocImm x n => rw [footprint_ldLocImm]; exact h.writeLoc8 x n rfl
  | ldAtA y => rw [footprint_ldAtA]; exact (h.memWrite (addrOf y s) _).afterAddr y
  | ldAAt y => rw [footprint_ldAAt]; exact ((h.memRead _).setReg8 .a _).afterAddr y
  | ldPairImm p nn => rw [footprint_ldPairImm]; exact h.setPair p nn
  | push q => rw [footprint_push]; exact (h.tick 4).push16 _ (by simp)
  | pop q => rw [footprint_pop]; exact h.pop16.writeStackPair q _
  | alu op x => rw [footprint_alu]; exact (h.readLoc8 x).aluApply op _
  | aluImm op n => rw [footprint_aluImm]; exact h.aluApply op n
  | inc x => rw [footprint_inc]; exact ((h.readLoc8 x).setF _).writeLoc8 x _ (hl_readLoc8 x s)
  | dec x => rw [footprint_dec]; exact ((h.readLoc8 x).setF _).writeLoc8 x _ (hl_readLoc8 x s)
  | incPair p => rw [footprint_incPair]; exact (h.setPair p _).tick 4
  | decPair p => rw [footprint_decPair]; exact (h.setPair p _).tick 4
  | addHLPair p => rw [footprint_addHLPair]; exact ((h.setF _).setPair .hl _).tick 4
  | rot op x => rw [footprint_rot]; exact ((h.readLoc8 x).setF _).writeLoc8 x _ (hl_readLoc8 x s)
  | bit b x => rw [footprint_bit]; exact (h.readLoc8 x).setF _
  | res b x => rw [footprint_res]; exact (h.readLoc8 x).writeLoc8 x _ (hl_readLoc8 x s)
  | set b x => rw [footprint_set]; exact (h.readLoc8 x).writeLoc8 x _ (hl_readLoc8 x s)
  | jrCond cc e =>
    rw [footprint_jrCond]
    rcases jrCond_cases cc s e with eq | eq <;> rw [eq]
    exacts [(h.setPc _).tick 4, h]
  | jpCond cc nn =>
    rw [footprint_jpCond]
    rcases jpCond_cases cc s nn with eq | eq <;> rw [eq]
    exacts [(h.setPc nn).tick 4, h]
  | callCond cc nn =>
    rw [footprint_callCond]
    rcases callCond_cases cc s nn with ⟨taken, eq⟩ | ⟨taken, eq⟩ <;> rw [eq] <;> simp only [taken]
    exacts [((h.tick 4).push16 _ (by simp)).setPc nn, h]
  | retCond cc =>
    rw [footprint_retCond]
    rcases retCond_cases cc s with eq | eq <;> rw [eq]
    exacts [((h.tick 4).pop16.setPc _).tick 4, h.tick 4]
  | rst y => rw [footprint_rst]; exact ((h.tick 4).push16 _ (by simp)).setPc _
  | ldhAtNA n => exact h.memWrite (highPage n) _
  | ldAtNNA nn => rw [footprint_ldAtNNA]; exact h.memWrite nn _
  | ldhAAtN n => exact (h.memRead (highPage n)).setReg8 .a _
  | ldAAtNN nn => exact (h.memRead nn).setReg8 .a _
  | ldAtNNSP nn => rw [footprint_ldAtNNSP]; exact h.memWrite2 nn _
  | ldHLSPPlusE e => exact ((h.setF _).setPair .hl _).tick 4
  | ldSPHL => exact (h.setSp _).tick 4
  | daa | cpl => exact (h.setReg8 .a _).setF _
  | scf | ccf => exact h.setF _
  | addSPE e => exact ((h.setF _).setSp _).tick 8
  | rlca | rrca | rla | rra => exact (h.setReg8 .a _).setF _
  | jr e => exact (h.setPc _).tick 4
  | jp nn => exact (h.setPc nn).tick 4
  | ret => exact (h.pop16.setPc _).tick 4
  | call nn => exact ((h.tick 4).push16 _ (by simp)).setPc nn
  | reti => exact ((h.pop16.setPc _).tick 4).setIme true
  | jpHL => exact h.setPc _
  | nop | stop => exact h
  | halt => exact h.setHalted true
  | di => exact h.setIme false
  | ei => exact h.setIme true
  | unrecognised i hu => rw [footprint_unrecognised hu]; exact h.quiet (.of_eq rfl rfl rfl rfl)

theorem exec_storesOnly {i : Instr} {s t : State} (h : exec i s = .next t) : StoresOnly (storeAddrs i s) s t := by
  obtain ⟨op, hm, rfl⟩ := exec_next h
  exact hm.storesOnly s

/-- Settles O59, field by field of `StoresOnly`; IF stands behind its own address only. -/
theorem storeFrame : Obligations.StoreFrame := by
  intro i s t he
  have h := exec_storesOnly he
  refine ⟨h.bytes, h.ram_bytes, fun hw hif => ?_, h.timer, fun hc => (Cart.control_eq_iff _ _).1 (h.control hc), h.params⟩
  obtain ⟨m, hm, h3, _⟩ := h.ifByte hw fun hmem => hif 0xFF0F hmem rfl
  exact ⟨fun j hj => by rw [hm, BitVec.getLsbD_or, h3 j hj, Bool.or_false],
    fun j hj => by rw [hm, BitVec.getLsbD_or, hj, Bool.true_or]⟩

/-- Settles O60: without store addresses `StoresOnly` is `MemoryKept`. -/
theorem storelessFrame : Obligations.StorelessFrame := by
  intro i s t hw he hnone
  have h := exec_storesOnly he
  rw [hnone] at h
  exact h.kept hw

end Sys2Proof.Machine
end

section
/-! SUPPORT. The address map region by region, the cartridge window, the fetches against the decoder, and time in two parts
(O21, O23, O35, O36, O6, O24, O25, O26). -/

namespace Sys2Proof.Machine

/-! The storage of each range (R83 to R93) -/

theorem backing_workRam {a : Word} (s : State) (h : 0xC000 ≤ a.toNat) (h' : a.toNat ≤ 0xDFFF) : backing a s = .mem a.toNat := by
  unfold backing
  rw [region_unique .workRam a ⟨h, by omega⟩]

theorem backing_echo {a : Word} (s : State) (h : 0xE000 ≤ a.toNat) (h' : a.toNat ≤ 0xFDFF) :
    backing a s = .mem (a.toNat - 0x2000) := by
  unfold backing
  rw [region_unique .echo a ⟨h, by omega⟩]

/-- The work RAM address that an echo address stands for (R88). -/
theorem echo_sub_toNat {a : Word} (h : 0xE000 ≤ a.toNat) : (a - 0x2000).toNat = a.toNat - 0x2000 := by bv_omega

theorem backing_echo_sub {a : Word} (s : State) (h : 0xE000 ≤ a.toNat) (h' : a.toNat ≤ 0xFDFF) :
    backing (a - 0x2000) s = .mem (a.toNat - 0x2000) := by
  rw [backing_workRam s (by rw [echo_sub_toNat h]; omega) (by rw [echo_sub_toNat h]; omega), echo_sub_toNat h]

/-- The flat ranges and the two interrupt bytes (R89, R92, R93). -/
theorem backing_flat {a : Word} (s : State)
    (h : 0xFE00 ≤ a.toNat ∧ a.toNat ≤ 0xFEFF ∨ 0xFF01 ≤ a.toNat ∧ a.toNat ≤ 0xFF03 ∨ 0xFF08 ≤ a.toNat ∧ a.toNat ≤ 0xFF0F ∨
      0xFF27 ≤ a.toNat ∧ a.toNat ≤ 0xFF3F ∨ 0xFF4C ≤ a.toNat) : backing a s = .mem a.toNat := by
  have hlt := a.isLt
  have regions : Region.spans .intRequest a.toNat ∨ Region.spans .intEnable a.toNat ∨ Region.spans .flat a.toNat := by
    dsimp only [Region.spans]; omega
  unfold backing
  rcases regions with hr | hr | hr <;> rw [region_unique _ a hr]

/-- Without RAM on the cartridge the window is the backing array (D18). -/
theorem backing_window_of_not_hasRam {a : Word} {s : State} (h : 0xA000 ≤ a.toNat) (h' : a.toNat ≤ 0xBFFF)
    (hr : hasRam s.params.cartKind = false) : backing a s = .mem a.toNat := by
  unfold backing
  rw [region_unique .cartWindow a ⟨h, by omega⟩, hr]
  rfl

/-- A ROM address reads the image at its offset (R83, R84). -/
theorem routeRead_rom {a : Word} (s : State) (h : a.toNat < 0x8000) : routeRead a s = romRead (s.cart.romOffset a) s := by
  unfold routeRead
  rcases Nat.lt_or_ge a.toNat 0x4000 with hb | hb
  · rw [region_unique .romFixed a hb]
  · rw [region_unique .romBanked a ⟨hb, h⟩]

theorem romRead_of_byte {s : State} {off : Nat} {v : Byte} (h : s.params.rom.byte off = some v) : romRead off s = (v, s) := by
  rw [romRead, h]

/-- A collaborator's port is read and written by the collaborator (R85, R90, R91). -/
theorem route_port {a : Word} (s : State)
    (h : a.toNat = 0xFF00 ∨ 0xFF10 ≤ a.toNat ∧ a.toNat ≤ 0xFF26 ∨ 0xFF40 ≤ a.toNat ∧ a.toNat ≤ 0xFF4B ∨
      0x8000 ≤ a.toNat ∧ a.toNat ≤ 0x9FFF) :
    routeRead a s = extRead a s ∧ ∀ v, routeWrite a v s = extWrite a v s := by
  have regions : Region.spans .joypad a.toNat ∨ Region.spans .apu a.toNat ∨ Region.spans .ppu a.toNat ∨
      Region.spans .videoRam a.toNat := by
    dsimp only [Region.spans]; omega
  unfold routeRead routeWrite
  rcases regions with hr | hr | hr | hr <;> rw [region_unique _ a hr] <;> exact ⟨rfl, fun _ => rfl⟩

/-- Settles O21: an echo address and the address 0x2000 below it have one byte behind them, and no work RAM address from
0xDE00 on has it. -/
theorem echoIsWorkRam : Obligations.EchoIsWorkRam := by
  refine ⟨fun s a h h' => ?_, fun s a v h h' => ?_, fun s a e v ha ha' he he' => ?_⟩
  · obtain ⟨-, hr⟩ := backing_mem (backing_echo s h h')
    obtain ⟨-, hr'⟩ := backing_mem (backing_echo_sub s h h')
    exact ⟨hr, hr'.trans hr.symm⟩
  · obtain ⟨hw, -⟩ := backing_mem (backing_echo s h h')
    obtain ⟨hw', -⟩ := backing_mem (backing_echo_sub s h h')
    exact ⟨hw v, (hw' v).trans (hw v).symm⟩
  · rw [(backing_mem (backing_echo s he he')).1]
    refine routeRead_setMem fun k hk => Memory.read_write_other _ _ _ _ ?_
    rw [backing_workRam s (by omega) ha', Backing.mem.injEq] at hk
    omega

/-- Settles O23, range by range: the storage behind the address, or the collaborator at its port. -/
theorem addressMap : Obligations.AddressMap := by
  refine ⟨fun s a v h hv => ?_, fun s a v h h' hv => ?_, fun s a v h => ?_, fun s a v h => ?_⟩
  · rw [routeRead_rom s (by omega), Cart.romOffset, if_pos (by omega)]
    exact romRead_of_byte hv
  · rw [routeRead_rom s (by omega), Cart.romOffset, if_neg (by omega)]
    exact romRead_of_byte hv
  · have self : backing a s = .mem a.toNat := by
      rcases h with ⟨h, h'⟩ | h | h | h | h | h | ⟨h, h', hr⟩
      case inl => exact backing_workRam s h h'
      case inr.inr.inr.inr.inr.inr => exact backing_window_of_not_hasRam h h' hr
      all_goals exact backing_flat s (by omega)
    obtain ⟨hw, hr⟩ := backing_mem self
    exact ⟨hr, hw v⟩
  · obtain ⟨hr, hw⟩ := route_port s h
    refine ⟨fun he => ⟨?_, ?_⟩, fun he => ?_⟩
    · rw [hr, extRead, he]
    · rw [hw, extWrite, he]
    · rw [hw, extWrite, he]

/-! The cartridge window (R86, R494, R495) -/

/-- On a cartridge with RAM the window is read and written by the cartridge. -/
theorem route_window {a : Word} {s : State} (hr : hasRam s.params.cartKind = true) (h : 0xA000 ≤ a.toNat)
    (h' : a.toNat ≤ 0xBFFF) :
    routeRead a s = (s.cart.windowRead a, s) ∧ ∀ v, routeWrite a v s = { s with cart := s.cart.windowWrite a v } := by
  unfold routeRead routeWrite
  rw [region_unique .cartWindow a ⟨h, by omega⟩]
  exact ⟨if_pos hr, fun _ => if_pos hr⟩

theorem Rtc.get_set (r : Rtc) (i j : Fin 5) (v : Byte) : (r.set i v).get j = if j = i then v else r.get j := by
  fin_cases i <;> fin_cases j <;> rfl

theorem Cart.ramOffset_eq (c : Cart) (a : Word) : c.ramOffset a = c.ramBank.val * 0x2000 + (a.toNat - 0xA000) := rfl

section
variable {c : Cart} (a : Word) (v : Byte)

theorem Cart.windowRead_disabled (h : c.ramEnabled = false) : c.windowRead a = 0x00 := if_pos h
theorem Cart.windowWrite_disabled (h : c.ramEnabled = false) : c.windowWrite a v = c := if_pos h

variable (he : c.ramEnabled = true)
include he

theorem Cart.windowRead_rtc (hm : c.rtcMapped = true) : c.windowRead a = c.rtcLatched.get c.rtcSel := by
  simp [Cart.windowRead, he, hm]
theorem Cart.windowWrite_rtc (hm : c.rtcMapped = true) : c.windowWrite a v = c.rtcWrite c.rtcSel v := by
  simp [Cart.windowWrite, he, hm]
theorem Cart.windowRead_ram (hm : c.rtcMapped = false) : c.windowRead a = c.ram.read (c.ramOffset a) := by
  simp [Cart.windowRead, he, hm]
theorem Cart.windowWrite_ram (hm : c.rtcMapped = false) :
    c.windowWrite a v = { c with ram := c.ram.write (c.ramOffset a) v } := by
  simp [Cart.windowWrite, he, hm]
end

/-- Settles O35: the three cases of the window's read. -/
theorem windowReads : Obligations.WindowReads := by
  intro s a hr h h'
  rw [(route_window hr h h').1]
  refine ⟨fun he => ?_, fun he hm => ?_, fun he hm => ?_⟩
  · rw [Cart.windowRead_disabled a he]
  · rw [Cart.windowRead_rtc a he hm]
  · rw [Cart.windowRead_ram a he hm, Cart.ramOffset_eq]

/-- Settles O36: the three cases of the window's write, and `Rtc.get_set` for the register written. -/
theorem windowWrites : Obligations.WindowWrites := by
  intro s a v hr h h'
  rw [(route_window hr h h').2]
  refine ⟨fun he => ?_, fun he hm => ?_, fun he hm => ?_⟩
  · rw [Cart.windowWrite_disabled a v he]
  · rw [Cart.windowWrite_rtc a v he hm]
    refine ⟨s.cart.rtcLive.set s.cart.rtcSel (v &&& Rtc.mask s.cart.rtcSel), rfl, fun i => ?_⟩
    rw [Rtc.get_set]
    split
    · next hi => rw [hi]
    · rfl
  · rw [Cart.windowWrite_ram a v he hm, Cart.ramOffset_eq]

/-! The fetches and the decoder (R99, R130, R133) -/

/-- What the machine fetches is what the decoder reads from the bytes fetched. -/
theorem decode_fetchedBytes (s : State) : decode (fetchedBytes s).1 = .ok ((fetchInstr s).1, []) ∧
    (fetchedBytes s).2 = (fetchInstr s).2 := by
  rw [fetchedBytes, fetchInstr_eq]
  cases hp : plan (fetch8 s).1 <;> simp [Plan.length, fetchBytes, decode_cons, hp, decodeRest, fetchRest]

/-- An instruction is as long as the first byte fetched says. -/
theorem encode_fetchInstr_length (s : State) : (encode (fetchInstr s).1).length = (plan (fetch8 s).1).length := by
  have agrees := plan_agrees (fetch8 s).1
  rw [fetchInstr_eq]
  cases hp : plan (fetch8 s).1 <;> rw [hp] at agrees
  case done => simp [fetchRest, Plan.length, agrees.1]
  case imm8 => simp [fetchRest, Plan.length, agrees.1]
  case imm16 => simp [fetchRest, Plan.length, agrees.1]
  case prefixed => simp [fetchRest, Plan.length, encode_cbInstr]

/-- Settles O6: the bytes fetched decode to the instruction that the step runs, and they are as many as its encoding has. -/
theorem stepRunsDecodedInstruction : Obligations.StepRunsDecodedInstruction := by
  refine ⟨fun s i hf hh hd => ?_, fun s => ⟨_, (decode_fetchedBytes s).1⟩, fun t ht => by simp [finishStep, ht],
    fun t ht => ?_, betweenSteps_stub⟩
  · obtain ⟨hdec, hst⟩ := decode_fetchedBytes (betweenSteps s)
    obtain rfl : i = (fetchInstr (betweenSteps s)).1 := by simpa using hd.symm.trans hdec
    refine ⟨hst ▸ step_running hf hh, ?_⟩
    rw [fetchedBytes, fetchBytes_cpu, encode_fetchInstr_length, betweenSteps_cpu]
  · obtain ⟨e, he⟩ := Option.ne_none_iff_exists'.1 ht
    simp [finishStep, he]

/-- Settles O24, by the equations of the charged accesses. -/
theorem twoByteAccessIsTwoByteAccesses : Obligations.TwoByteAccessIsTwoByteAccesses :=
  ⟨memRead_eq, memWrite_eq,
    fun a s => ⟨by rw [memRead2_eq, joinBytes_toNat]; omega, by rw [memRead2_eq]⟩,
    memWrite2_eq, rfl, fun s => by rw [fetch8_eq, memRead_eq]⟩

/-! Between steps (R404) -/

/-- The collaborators' request is of bit 4 of IF, the Joypad's. -/
theorem joypadRequest_getLsbD (v : Byte) {j : Nat} (h : j ≠ 4) : (v ||| 0x10).getLsbD j = v.getLsbD j := by
  rw [BitVec.getLsbD_or, show (0x10 : Byte) = BitVec.twoPow 8 4 from rfl, BitVec.getLsbD_twoPow]
  simp [h.symm]

theorem betweenSteps_bytes (s : State) {k : Nat} (h : k ≠ 0xFF0F) : (betweenSteps s).mem.read k = s.mem.read k := by
  rcases betweenSteps_mem s with e | e <;> rw [e]
  exact Memory.read_write_other _ _ _ _ h

theorem betweenSteps_ifByte {s : State} (h : s.mem.wf = true) :
    (betweenSteps s).ifByte = s.ifByte ∨ (betweenSteps s).ifByte = s.ifByte ||| 0x10 := by
  unfold State.ifByte
  rcases betweenSteps_mem s with e | e <;> rw [e]
  · exact .inl rfl
  · exact .inr (Memory.read_write_same h _ _)

/-- Settles O25, by the laws of the tick, the charged read and the collaborators' turn. -/
theorem timePassingFrame : Obligations.TimePassingFrame := by
  refine ⟨tick_kept, tick_cpu, memRead_kept, memRead_cpu, betweenSteps_stub, fun s => ?_, fun s => ?_⟩
  · rcases betweenSteps_cases s with ⟨-, e⟩ | e | e
    · exact ⟨s.draws, .inl e⟩
    · exact ⟨_, .inl e⟩
    · exact ⟨_, .inr e⟩
  · refine ⟨betweenSteps_cpu s, betweenSteps_timer s, betweenSteps_cart s, betweenSteps_params s,
      fun k hk => betweenSteps_bytes s hk, fun hw => ?_⟩
    rcases betweenSteps_ifByte hw with e | e <;> rw [e]
    · exact ⟨fun _ _ => rfl, id⟩
    · exact ⟨fun j hj => joypadRequest_getLsbD _ hj, fun h4 => by rw [BitVec.getLsbD_or, h4, Bool.true_or]⟩

/-! Time in two parts (R94, R448, R500) -/

theorem State.eq_of_fields {s t : State} (hcpu : s.cpu = t.cpu) (htimer : s.timer = t.timer) (hcart : s.cart = t.cart)
    (hmem : s.mem = t.mem) (hparams : s.params = t.params) (hdraws : s.draws = t.draws) : s = t := by
  cases s; cases t
  exact State.mk.injEq .. ▸ ⟨hcpu, htimer, hcart, hmem, hparams, hdraws⟩

/-- Of two writes at one address the second stands. -/
theorem Memory.write_write_same {m : Memory} (h : m.wf = true) (a : Nat) (v w : Byte) :
    (m.write a v).write a w = m.write a w := by
  have hv := Memory.write_wf h a v
  refine Memory.ext_read (Memory.write_wf hv a w) (Memory.write_wf h a w) fun b => ?_
  by_cases hb : b = a
  · rw [hb, Memory.read_write_same hv, Memory.read_write_same h]
  · rw [Memory.read_write_other _ _ _ _ hb, Memory.read_write_other _ _ _ _ hb, Memory.read_write_other _ _ _ _ hb]

/-- A second request of the same interrupts changes nothing. -/
theorem State.request_request {s : State} (h : s.mem.wf = true) (bits : Byte) :
    (s.request bits).request bits = s.request bits := by
  refine State.eq_of_fields rfl rfl rfl ?_ rfl rfl
  rw [request_mem, request_ifByte bits s h, request_mem, Memory.write_write_same h, BitVec.or_assoc, BitVec.or_self]

/-- No carry touches the halt bit (R501). -/
theorem Rtc.tickDay_halted (r : Rtc) : r.tickDay.halted = r.halted := by
  have upper : ∀ k, k ≤ 1 → ((r.daysUpper &&& 0xC0) ||| BitVec.ofNat 8 k).getLsbD 6 = r.daysUpper.getLsbD 6 := by
    intro k hk
    interval_cases k <;> simp
  unfold Rtc.tickDay Rtc.halted
  dsimp only
  split
  · simp
  · exact upper _ (by omega)

theorem Rtc.tickSecond_halted (r : Rtc) : r.tickSecond.halted = r.halted := by
  unfold Rtc.tickSecond
  split
  · rfl
  · split
    · rfl
    · split
      · rfl
      · exact Rtc.tickDay_halted _

theorem Rtc.tickSeconds_halted (n : Nat) (r : Rtc) : (Rtc.tickSeconds n r).halted = r.halted := by
  induction n generalizing r with
  | zero => rfl
  | succ n ih => exact (ih r.tickSecond).trans (Rtc.tickSecond_halted r)

/-- In system mode passing time runs the clock of a timer cartridge that is not halted, and nothing else of the cartridge (R500,
R502). -/
theorem tick_cart_system {s : State} (h : s.params.rtcMode = .system) (n : Nat) : (tick n s).cart =
    if s.params.cartKind = .mbc3Timer ∧ s.cart.rtcLive.halted = false then s.cart.clock s.params.rtcCyclesPerTick n
    else s.cart := by
  rw [tick_cart, cartStep]
  cases s.params.cartKind with
  | romOnly | mbc1 | mbc3 => simp
  | mbc3Timer => cases s.cart.rtcLive.halted <;> simp [h]

theorem tick_cart_add {s : State} (h : s.params.rtcMode = .system) (hp : 0 < s.params.rtcCyclesPerTick) (m n : Nat) :
    (tick n (tick m s)).cart = (tick (m + n) s).cart := by
  rw [tick_cart_system (by rwa [tick_params]), tick_params, tick_cart_system h, tick_cart_system h]
  by_cases hc : s.params.cartKind = .mbc3Timer ∧ s.cart.rtcLive.halted = false
  · have running : (s.cart.clock s.params.rtcCyclesPerTick m).rtcLive.halted = false :=
      (Rtc.tickSeconds_halted _ _).trans hc.2
    rw [if_pos hc, if_pos hc, if_pos ⟨hc.1, running⟩, Cart.clock_add _ _ _ hp]
  · rw [if_neg hc, if_neg hc, if_neg hc]

/-- With the stub, passing time requests the Timer's interrupt, or leaves memory alone (R446). -/
theorem tick_mem_add {s : State} (hw : s.mem.wf = true) (h : s.params.ext = .stub) (m n : Nat) :
    (tick n (tick m s)).mem = (tick (m + n) s).mem := by
  rw [tick_mem_stub n _ (by rwa [tick_params]), State.ifByte, tick_mem_stub m s h, tick_mem_stub (m + n) s h, tick_timer,
    Timer.steps_add]
  cases (Timer.steps m s.timer).2 <;> cases (Timer.steps n (Timer.steps m s.timer).1).2
  case true.true => exact congrArg State.mem (State.request_request hw 0x04)
  all_goals rfl

theorem cartStep_draws_system {s : State} (h : s.params.rtcMode = .system) (n : Nat) : (cartStep n s).draws = s.draws := by
  unfold cartStep
  cases s.params.cartKind with
  | romOnly | mbc1 | mbc3 => rfl
  | mbc3Timer => cases s.cart.rtcLive.halted <;> simp [h]

theorem tick_draws {s : State} (hs : s.params.ext = .stub) (hm : s.params.rtcMode = .system) (n : Nat) :
    (tick n s).draws = s.draws := by
  rw [tick, extStep_stub _ (by simpa using hs), cartStep_draws_system (by simpa using hm), timerStep_draws]

/-- Settles O26, field by field: the timer's cycles, the cartridge's seconds and the requests each add up. -/
theorem tickIsAdditive : Obligations.TickIsAdditive := by
  intro m n s hw hs hm hp
  refine State.eq_of_fields ?_ ?_ (tick_cart_add hm hp m n) (tick_mem_add hw hs m n) ?_ ?_
  · rw [tick_cpu, tick_cpu, tick_cpu, Nat.add_assoc]
  · rw [tick_timer, tick_timer, tick_timer, Timer.steps_add]
  · rw [tick_params, tick_params, tick_params]
  · rw [tick_draws (by rwa [tick_params]) (by rwa [tick_params]), tick_draws hs hm, tick_draws hs hm]

end Sys2Proof.Machine
end

section
/-! SUPPORT. The decoder and the encoder as inverses of each other: the tables of R140 to R144 reach every instruction, and what
they give for a first byte is encoded with it (O1 to O5). The next state of every instruction (O10). -/

namespace Sys2Proof

/-- The instructions that a plan can give, over all bytes behind the first. -/
def Plan.gives (p : Plan) (i : Instr) : Prop :=
  match p with
  | .done j => i = j
  | .imm8 k => ∃ n, i = k n
  | .imm16 k => ∃ nn, i = k nn
  | .prefixed => ∃ b1, i = cbInstr b1

/-! The operand tables name every operand (R134, R138, R139), and every three fields make a byte (R131) -/

theorem loc8Of_surjective (x : Loc8) : ∃ z, loc8Of z = x := by
  rcases x with (_ | _ | _ | _ | _ | _ | _) | _
  exacts [⟨0, rfl⟩, ⟨1, rfl⟩, ⟨2, rfl⟩, ⟨3, rfl⟩, ⟨4, rfl⟩, ⟨5, rfl⟩, ⟨7, rfl⟩, ⟨6, rfl⟩]

theorem aluOf_surjective (op : AluOp) : ∃ y, aluOf y = op := by
  cases op
  exacts [⟨0, rfl⟩, ⟨1, rfl⟩, ⟨2, rfl⟩, ⟨3, rfl⟩, ⟨4, rfl⟩, ⟨5, rfl⟩, ⟨6, rfl⟩, ⟨7, rfl⟩]

theorem rotOf_surjective (op : RotOp) : ∃ y, rotOf y = op := by
  cases op
  exacts [⟨0, rfl⟩, ⟨1, rfl⟩, ⟨2, rfl⟩, ⟨3, rfl⟩, ⟨4, rfl⟩, ⟨5, rfl⟩, ⟨6, rfl⟩, ⟨7, rfl⟩]

theorem exists_byte_of_fields (x : Fin 4) (y z : Fin 8) : ∃ b, fieldX b = x ∧ fieldY b = y ∧ fieldZ b = z := by
  refine ⟨opByte x y z, Fin.ext ?_, Fin.ext ?_, Fin.ext ?_⟩ <;>
    simp only [opByte, fieldX, fieldY, fieldZ, BitVec.toNat_ofNat] <;> omega

/-! The tables by the three fields (R133, R140 to R144) -/

/-- What the unprefixed opcode with these fields calls for (R140 to R143). -/
def planOf (x : Fin 4) (y z : Fin 8) : Plan :=
  match x with
  | 0 => planX0 y z
  | 1 => planX1 y z
  | 2 => planX2 y z
  | 3 => planX3 y z

theorem plan_eq_planOf (b : Byte) : plan b = planOf (fieldX b) (fieldY b) (fieldZ b) := rfl

/-- The instruction behind 0xCB whose second byte has these fields (R144). -/
def cbOf (x : Fin 4) (y z : Fin 8) : Instr :=
  match x with
  | 0 => Instr.rot (rotOf y) (loc8Of z)
  | 1 => Instr.bit y (loc8Of z)
  | 2 => Instr.res y (loc8Of z)
  | 3 => Instr.set y (loc8Of z)

theorem cbInstr_eq_cbOf (b : Byte) : cbInstr b = cbOf (fieldX b) (fieldY b) (fieldZ b) := rfl

/-! The eleven unrecognised bytes (R145) -/

/-- An unrecognised instruction is one byte, of the eleven, that selects it. -/
theorem Instr.byte_of_isUnrecognised {i : Instr} (h : i.isUnrecognised = true) :
    ∃ b ∈ unrecognisedBytes, encode i = [b] ∧ plan b = .done i := by
  refine ⟨(encode i).headD 0, Machine.headD_encode_mem_unrecognisedBytes h, ?_⟩
  unfold Instr.isUnrecognised at h
  split at h
  case h_12 => exact absurd h Bool.false_ne_true
  all_goals exact ⟨rfl, rfl⟩

theorem plan_of_mem_unrecognisedBytes {b : Byte} (h : b ∈ unrecognisedBytes) :
    ∃ i, plan b = .done i ∧ i.isUnrecognised = true := by
  simp only [unrecognisedBytes, List.mem_cons, List.not_mem_nil, or_false] at h
  rcases h with rfl | rfl | rfl | rfl | rfl | rfl | rfl | rfl | rfl | rfl | rfl <;> exact ⟨_, rfl, rfl⟩

/-! Every instruction stands in the tables -/

/-- Some first byte selects the instruction. -/
def Instr.inTables (i : Instr) : Prop := ∃ b0, (plan b0).gives i

theorem Instr.inTables_of_planOf {i : Instr} (x : Fin 4) (y z : Fin 8) (h : (planOf x y z).gives i) : i.inTables := by
  obtain ⟨b, rfl, rfl, rfl⟩ := exists_byte_of_fields x y z
  exact ⟨b, by rwa [plan_eq_planOf]⟩

theorem Instr.inTables_cbOf (x : Fin 4) (y z : Fin 8) : (cbOf x y z).inTables := by
  obtain ⟨b, rfl, rfl, rfl⟩ := exists_byte_of_fields x y z
  exact ⟨0xCB, b, (cbInstr_eq_cbOf b).symm⟩

/-- The regular rows through their operand tables, the others by their bytes. -/
theorem Instr.inTables_all (i : Instr) : i.inTables := by
  induction i using Instr.by_family with
  | ldRegReg dst src =>
    obtain ⟨y, hy⟩ := loc8Of_surjective (.reg dst)
    obtain ⟨z, hz⟩ := loc8Of_surjective (.reg src)
    exact inTables_of_planOf 1 y z (by rw [planOf, planX1, hy, hz]; rfl)
  | ldRegAtHL dst =>
    obtain ⟨y, hy⟩ := loc8Of_surjective (.reg dst)
    exact inTables_of_planOf 1 y 6 (by rw [planOf, planX1, hy]; rfl)
  | ldAtHLReg src =>
    obtain ⟨z, hz⟩ := loc8Of_surjective (.reg src)
    exact inTables_of_planOf 1 6 z (by rw [planOf, planX1, hz]; rfl)
  | halt => exact inTables_of_planOf 1 6 6 rfl
  | alu op x =>
    obtain ⟨y, rfl⟩ := aluOf_surjective op
    obtain ⟨z, rfl⟩ := loc8Of_surjective x
    exact inTables_of_planOf 2 y z rfl
  | aluImm op n =>
    obtain ⟨y, rfl⟩ := aluOf_surjective op
    exact inTables_of_planOf 3 y 6 ⟨n, rfl⟩
  | ldLocImm x n =>
    obtain ⟨y, rfl⟩ := loc8Of_surjective x
    exact inTables_of_planOf 0 y 6 ⟨n, rfl⟩
  | inc x =>
    obtain ⟨y, rfl⟩ := loc8Of_surjective x
    exact inTables_of_planOf 0 y 4 rfl
  | dec x =>
    obtain ⟨y, rfl⟩ := loc8Of_surjective x
    exact inTables_of_planOf 0 y 5 rfl
  | rst y => exact inTables_of_planOf 3 y 7 rfl
  | rot op x =>
    obtain ⟨y, rfl⟩ := rotOf_surjective op
    obtain ⟨z, rfl⟩ := loc8Of_surjective x
    exact inTables_cbOf 0 y z
  | bit b x =>
    obtain ⟨z, rfl⟩ := loc8Of_surjective x
    exact inTables_cbOf 1 b z
  | res b x =>
    obtain ⟨z, rfl⟩ := loc8Of_surjective x
    exact inTables_cbOf 2 b z
  | set b x =>
    obtain ⟨z, rfl⟩ := loc8Of_surjective x
    exact inTables_cbOf 3 b z
  | ldAtA x => cases x; exacts [⟨0x02, rfl⟩, ⟨0x12, rfl⟩, ⟨0x22, rfl⟩, ⟨0x32, rfl⟩, ⟨0xE2, rfl⟩]
  | ldAAt x => cases x; exacts [⟨0x0A, rfl⟩, ⟨0x1A, rfl⟩, ⟨0x2A, rfl⟩, ⟨0x3A, rfl⟩, ⟨0xF2, rfl⟩]
  | ldPairImm p nn => cases p; exacts [⟨0x01, nn, rfl⟩, ⟨0x11, nn, rfl⟩, ⟨0x21, nn, rfl⟩, ⟨0x31, nn, rfl⟩]
  | push p => cases p; exacts [⟨0xC5, rfl⟩, ⟨0xD5, rfl⟩, ⟨0xE5, rfl⟩, ⟨0xF5, rfl⟩]
  | pop p => cases p; exacts [⟨0xC1, rfl⟩, ⟨0xD1, rfl⟩, ⟨0xE1, rfl⟩, ⟨0xF1, rfl⟩]
  | incPair p => cases p; exacts [⟨0x03, rfl⟩, ⟨0x13, rfl⟩, ⟨0x23, rfl⟩, ⟨0x33, rfl⟩]
  | decPair p => cases p; exacts [⟨0x0B, rfl⟩, ⟨0x1B, rfl⟩, ⟨0x2B, rfl⟩, ⟨0x3B, rfl⟩]
  | addHLPair p => cases p; exacts [⟨0x09, rfl⟩, ⟨0x19, rfl⟩, ⟨0x29, rfl⟩, ⟨0x39, rfl⟩]
  | jrCond cc e => cases cc; exacts [⟨0x20, e, rfl⟩, ⟨0x28, e, rfl⟩, ⟨0x30, e, rfl⟩, ⟨0x38, e, rfl⟩]
  | jpCond cc nn => cases cc; exacts [⟨0xC2, nn, rfl⟩, ⟨0xCA, nn, rfl⟩, ⟨0xD2, nn, rfl⟩, ⟨0xDA, nn, rfl⟩]
  | callCond cc nn => cases cc; exacts [⟨0xC4, nn, rfl⟩, ⟨0xCC, nn, rfl⟩, ⟨0xD4, nn, rfl⟩, ⟨0xDC, nn, rfl⟩]
  | retCond cc => cases cc; exacts [⟨0xC0, rfl⟩, ⟨0xC8, rfl⟩, ⟨0xD0, rfl⟩, ⟨0xD8, rfl⟩]
  | ldhAtNA n => exact ⟨0xE0, n, rfl⟩
  | ldAtNNA nn => exact ⟨0xEA, nn, rfl⟩
  | ldhAAtN n => exact ⟨0xF0, n, rfl⟩
  | ldAAtNN nn => exact ⟨0xFA, nn, rfl⟩
  | ldAtNNSP nn => exact ⟨0x08, nn, rfl⟩
  | ldHLSPPlusE e => exact ⟨0xF8, e, rfl⟩
  | ldSPHL => exact ⟨0xF9, rfl⟩
  | daa => exact ⟨0x27, rfl⟩
  | cpl => exact ⟨0x2F, rfl⟩
  | scf => exact ⟨0x37, rfl⟩
  | ccf => exact ⟨0x3F, rfl⟩
  | addSPE e => exact ⟨0xE8, e, rfl⟩
  | rlca => exact ⟨0x07, rfl⟩
  | rrca => exact ⟨0x0F, rfl⟩
  | rla => exact ⟨0x17, rfl⟩
  | rra => exact ⟨0x1F, rfl⟩
  | jr e => exact ⟨0x18, e, rfl⟩
  | jp nn => exact ⟨0xC3, nn, rfl⟩
  | ret => exact ⟨0xC9, rfl⟩
  | call nn => exact ⟨0xCD, nn, rfl⟩
  | reti => exact ⟨0xD9, rfl⟩
  | jpHL => exact ⟨0xE9, rfl⟩
  | nop => exact ⟨0x00, rfl⟩
  | stop => exact ⟨0x10, rfl⟩
  | di => exact ⟨0xF3, rfl⟩
  | ei => exact ⟨0xFB, rfl⟩
  | unrecognised i h =>
    obtain ⟨b, -, -, hb⟩ := byte_of_isUnrecognised h
    exact ⟨b, by rw [hb]; rfl⟩

/-! The decoder on an encoding, and the encoding of what it accepts (R130, R132, R133) -/

/-- What a plan gives is encoded with the plan's first byte, so that byte leads the decoder back to the plan. -/
theorem decode_encode_of_gives {b0 : Byte} {i : Instr} (h : (plan b0).gives i) (rest : List Byte) :
    decode (encode i ++ rest) = .ok (i, rest) := by
  have agrees := plan_agrees b0
  cases hp : plan b0 <;> rw [hp] at h agrees
  case done j => obtain rfl := h; simp [agrees.1, decode_cons, hp, decodeRest]
  case imm8 k => obtain ⟨n, rfl⟩ := h; simp [agrees.1, decode_cons, hp, decodeRest]
  case imm16 k => obtain ⟨nn, rfl⟩ := h; simp [agrees.1, decode_cons, hp, decodeRest]
  case prefixed =>
    obtain ⟨b1, rfl⟩ := h
    obtain rfl : b0 = 0xCB := agrees
    rw [encode_cbInstr]; rfl

theorem decode_encode (i : Instr) (rest : List Byte) : decode (encode i ++ rest) = .ok (i, rest) := by
  obtain ⟨b0, h⟩ := i.inTables_all
  exact decode_encode_of_gives h rest

/-- Settles O2: every instruction stands in the tables, and the tables agree with the encoder byte by byte. -/
theorem decodeEncodeAgree : Obligations.DecodeEncodeAgree := decode_encode

/-- Settles O3, by the four shapes of a plan. -/
theorem encodeDecodeAgree : Obligations.EncodeDecodeAgree := by
  rintro (_ | ⟨b0, rest⟩) i rest' h
  · cases h
  · have agrees := plan_agrees b0
    rw [decode_cons] at h
    cases hp : plan b0 <;> rw [hp] at h agrees
    case done j =>
      obtain ⟨rfl, rfl⟩ : j = i ∧ rest = rest' := by simpa [decodeRest] using h
      rw [agrees.1]; rfl
    case imm8 k =>
      rcases rest with _ | ⟨n, tail⟩
      · cases h
      · obtain ⟨rfl, rfl⟩ : k n = i ∧ tail = rest' := by simpa [decodeRest] using h
        rw [agrees.1]; rfl
    case imm16 k =>
      rcases rest with _ | ⟨lo, _ | ⟨hi, tail⟩⟩
      · cases h
      · cases h
      · obtain ⟨rfl, rfl⟩ : k (joinBytes hi lo) = i ∧ tail = rest' := by simpa [decodeRest] using h
        simp [agrees.1]
    case prefixed =>
      obtain rfl : b0 = 0xCB := agrees
      rcases rest with _ | ⟨b1, tail⟩
      · cases h
      · obtain ⟨rfl, rfl⟩ : cbInstr b1 = i ∧ tail = rest' := by simpa [decodeRest] using h
        rw [encode_cbInstr]; rfl

/-! The first byte fixes the length (R130) -/

theorem plan_length (b0 : Byte) : (plan b0).length = lengthOf b0 := by
  have agrees := plan_agrees b0
  cases hp : plan b0 <;> rw [hp] at agrees
  case prefixed => obtain rfl : b0 = 0xCB := agrees; rfl
  all_goals exact agrees.2.symm

/-- With at least as many bytes as the plan calls for, it gives an instruction and leaves the rest. -/
theorem decodeRest_of_length_le {b0 : Byte} {p : Plan} {rest : List Byte} (h : p.length ≤ rest.length + 1) :
    ∃ i, decodeRest b0 p rest = .ok (i, rest.drop (p.length - 1)) := by
  cases p with
  | done j => exact ⟨j, rfl⟩
  | imm8 k =>
    rcases rest with _ | ⟨n, tail⟩
    · simp [Plan.length] at h
    · exact ⟨k n, rfl⟩
  | imm16 k =>
    rcases rest with _ | ⟨lo, _ | ⟨hi, tail⟩⟩
    · simp [Plan.length] at h
    · simp [Plan.length] at h
    · exact ⟨k (joinBytes hi lo), rfl⟩
  | prefixed =>
    rcases rest with _ | ⟨b1, tail⟩
    · simp [Plan.length] at h
    · exact ⟨cbInstr b1, rfl⟩

/-- With fewer bytes it is refused. -/
theorem decodeRest_of_length_lt {b0 : Byte} {p : Plan} {rest : List Byte} (h : rest.length + 1 < p.length) :
    decodeRest b0 p rest = .error (.truncated b0) := by
  cases p with
  | done j => simp [Plan.length] at h
  | imm8 k | prefixed =>
    obtain rfl : rest = [] := List.length_eq_zero_iff.1 (by simpa [Plan.length] using h)
    rfl
  | imm16 k =>
    rcases rest with _ | ⟨lo, _ | ⟨hi, tail⟩⟩
    · rfl
    · rfl
    · simp only [Plan.length, List.length_cons] at h; omega

theorem lengthOf_pos (b0 : Byte) : 0 < lengthOf b0 := by
  rw [← plan_length]; cases plan b0 <;> exact Nat.succ_pos _

/-- Settles O4: the plan's length is the first byte's, and the bytes consumed are the encoding (O3). -/
theorem firstByteFixesLength : Obligations.FirstByteFixesLength := by
  refine ⟨fun b0 rest h => ?_, fun b0 rest h => ?_, rfl⟩
  · obtain ⟨i, hi⟩ := decodeRest_of_length_le (b0 := b0) (p := plan b0) (by rwa [plan_length])
    rw [plan_length, ← decode_cons] at hi
    have hlen := congrArg List.length (encodeDecodeAgree _ _ _ hi)
    have hpos := lengthOf_pos b0
    simp only [List.length_cons, List.length_append, List.length_drop] at hlen
    exact ⟨i, hi, by omega⟩
  · rw [decode_cons]
    exact decodeRest_of_length_lt (by rwa [plan_length])

/-! What selects no instruction (R144, R145) -/

theorem Instr.wellFormed_eq_false_iff (i : Instr) : i.wellFormed = false ↔ i.isUnrecognised = true := by
  simp [Instr.wellFormed]

theorem decode_of_mem_unrecognisedBytes {b : Byte} (h : b ∈ unrecognisedBytes) (rest : List Byte) :
    ∃ i, decode (b :: rest) = .ok (i, rest) ∧ i.isUnrecognised = true := by
  obtain ⟨i, hi, hu⟩ := plan_of_mem_unrecognisedBytes h
  exact ⟨i, by rw [decode_cons, hi]; rfl, hu⟩

theorem Instr.isUnrecognised_iff (i : Instr) : i.isUnrecognised = true ↔ ∃ b ∈ unrecognisedBytes, encode i = [b] := by
  constructor
  · intro h
    obtain ⟨b, hb, he, -⟩ := byte_of_isUnrecognised h
    exact ⟨b, hb, he⟩
  · rintro ⟨b, hb, he⟩
    obtain ⟨j, hj, hu⟩ := decode_of_mem_unrecognisedBytes hb []
    have hi := decode_encode i []
    rw [he, List.append_nil, hj] at hi
    obtain rfl : j = i := by simpa using hi
    exact hu

/-- Two bytes are none of the eleven. -/
theorem cbInstr_wellFormed (b1 : Byte) : (cbInstr b1).wellFormed = true := by
  by_contra h
  rw [Bool.not_eq_true, Instr.wellFormed_eq_false_iff, Instr.isUnrecognised_iff] at h
  obtain ⟨b, -, he⟩ := h
  rw [encode_cbInstr] at he
  cases he

/-- Settles O5: the decoder's first byte is the encoding's (O3), and an unrecognised instruction's encoding is one of the
eleven. -/
theorem unrecognisedBytesExactly : Obligations.UnrecognisedBytesExactly := by
  simp only [Obligations.UnrecognisedBytesExactly, Instr.wellFormed_eq_false_iff]
  refine ⟨Instr.isUnrecognised_iff, fun b rest => ⟨?_, fun hb => ?_⟩, fun b1 => ⟨cbInstr b1, rfl, cbInstr_wellFormed b1⟩⟩
  · rintro ⟨i, rest', hd, hu⟩
    obtain ⟨b', hb', he⟩ := (Instr.isUnrecognised_iff i).1 hu
    have hbytes := encodeDecodeAgree _ _ _ hd
    rw [he, List.singleton_append, List.cons.injEq] at hbytes
    rwa [hbytes.1]
  · obtain ⟨i, hd, hu⟩ := decode_of_mem_unrecognisedBytes hb rest
    exact ⟨i, rest, hd, hu⟩

/-- Settles O1, sample by sample. -/
theorem sampleWordsDecode : Obligations.SampleWordsDecode := by
  unfold Obligations.SampleWordsDecode
  and_intros <;> rfl

end Sys2Proof

namespace Sys2Proof.Machine

/-- Settles O10: every instruction has a meaning, the latch is outside the footprint of the 500, and the eleven latch their own
byte. -/
theorem everyInstructionCompletes : Obligations.EveryInstructionCompletes := by
  intro i s
  cases hu : i.isUnrecognised with
  | false =>
    obtain ⟨op, hm, hop⟩ := exec_meaning i
    exact ⟨op s, hop s, fun _ => (hm.cpuFrame s).latch hu, fun hw => by simp [Instr.wellFormed, hu] at hw⟩
  | true =>
    obtain ⟨b, -, he, -⟩ := Instr.byte_of_isUnrecognised hu
    refine ⟨_, exec_unrecognised i hu s, fun hw => by simp [Instr.wellFormed, hu] at hw, fun _ => ⟨b, he, ?_⟩⟩
    rw [he]
    rfl

end Sys2Proof.Machine
end

section
/-! SUPPORT. The 8-bit loads and stores (spec/40_load8.md): the bytes of each operand form, the high-page address as a number, and
HL across the access of A (O42, O43). -/

namespace Sys2Proof.Machine

/-! The bytes of the operand forms (R134, R140, R141) -/

theorem encode_ldRegReg (dst src : Reg8) : encode (Instr.ldRegReg dst src) = [opByte 1 dst.code src.code] := by
  cases dst <;> cases src <;> rfl
theorem encode_ldRegAtHL (dst : Reg8) : encode (Instr.ldRegAtHL dst) = [opByte 1 dst.code 6] := by cases dst <;> rfl
theorem encode_ldAtHLReg (src : Reg8) : encode (Instr.ldAtHLReg src) = [opByte 1 6 src.code] := by cases src <;> rfl
theorem encode_ldLocImm (x : Loc8) (n : Byte) : encode (Instr.ldLocImm x n) = [opByte 0 x.code 6, n] := by
  rcases x with (_ | _ | _ | _ | _ | _ | _) | _ <;> rfl

/-- No offset carries out of the high page (R173 to R176). -/
theorem highPage_eq_ofNat (n : Byte) : highPage n = BitVec.ofNat 16 (0xFF00 + n.toNat) := by
  unfold highPage
  bv_omega

/-! HL across the access of A, and its step after it -/

theorem hl_memWrite (a : Word) (v : Byte) (s : State) : (memWrite a v s).hl = s.hl := by
  simp [State.hl, State.pair]
theorem hl_memRead_setReg8_a (a : Word) (v : Byte) (s : State) : ((memRead a s).2.setReg8 .a v).hl = s.hl := by
  simp [State.hl, State.pair, State.setReg8]

/-- HL steps from the value it had before an access that left it alone (R167, R168, R171, R172). -/
theorem afterAddr_hlInc {s t : State} (h : t.hl = s.hl) : afterAddr .hlInc t = t.setPair .hl (s.hl + 1) := by
  rw [afterAddr, h]
theorem afterAddr_hlDec {s t : State} (h : t.hl = s.hl) : afterAddr .hlDec t = t.setPair .hl (s.hl - 1) := by
  rw [afterAddr, h]

/-- Settles O42, form by form: each shared operation is the access it names, with the high-page address read as a number. -/
theorem registerLoads : Obligations.RegisterLoads := by
  unfold Obligations.RegisterLoads
  simp only [← highPage_eq_ofNat]
  exact ⟨fun dst src s => ⟨encode_ldRegReg dst src, exec_ldRegReg dst src s⟩,
    fun dst s => ⟨encode_ldRegAtHL dst, exec_ldRegAtHL dst s⟩,
    fun r s => ⟨encode_ldAtHLReg r, exec_ldAtHLReg r s⟩,
    fun dst n s => ⟨encode_ldLocImm (.reg dst) n, exec_ldLocImm (.reg dst) n s⟩,
    fun n s => ⟨encode_ldLocImm .atHL n, exec_ldLocImm .atHL n s⟩,
    fun n s => ⟨rfl, rfl⟩, fun n s => ⟨rfl, rfl⟩,
    fun s => ⟨rfl, exec_ldAtA .highC s⟩, fun s => ⟨rfl, exec_ldAAt .highC s⟩,
    fun nn s => ⟨rfl, rfl⟩, fun nn s => ⟨rfl, rfl⟩⟩

/-- Settles O43, address register by address register: the access leaves HL, so the step after it starts from the HL before. -/
theorem accumulatorLoads : Obligations.AccumulatorLoads := by
  unfold Obligations.AccumulatorLoads
  refine ⟨fun s => ⟨rfl, exec_ldAtA .bc s⟩, fun s => ⟨rfl, exec_ldAtA .de s⟩,
    fun s => ⟨rfl, (exec_ldAtA .hlInc s).trans ?_⟩, fun s => ⟨rfl, (exec_ldAtA .hlDec s).trans ?_⟩,
    fun s => ⟨rfl, exec_ldAAt .bc s⟩, fun s => ⟨rfl, exec_ldAAt .de s⟩,
    fun s => ⟨rfl, (exec_ldAAt .hlInc s).trans ?_⟩, fun s => ⟨rfl, (exec_ldAAt .hlDec s).trans ?_⟩⟩
  · exact congrArg Host.Outcome.next (afterAddr_hlInc (hl_memWrite _ _ s))
  · exact congrArg Host.Outcome.next (afterAddr_hlDec (hl_memWrite _ _ s))
  · exact congrArg Host.Outcome.next (afterAddr_hlInc (hl_memRead_setReg8_a _ _ s))
  · exact congrArg Host.Outcome.next (afterAddr_hlDec (hl_memRead_setReg8_a _ _ s))

end Sys2Proof.Machine
end

section
/-! SUPPORT. The 16-bit loads and the stack instructions (spec/41_load16_stack.md): the bytes of each pair form, SP plus a
displacement as a signed sum, and the stack pairs across the internal cycle of PUSH (O44, O45). -/

namespace Sys2Proof.Machine

/-! The bytes of the pair forms (R135, R136, R140, R143) -/

theorem encode_ldPairImm (p : Pair) (nn : Word) :
    encode (Instr.ldPairImm p nn) = [opByte 0 (2 * p.code) 1, loByte nn, hiByte nn] := by cases p <;> rfl
theorem encode_push (p : StackPair) : encode (Instr.push p) = [opByte 3 (2 * p.code) 5] := by cases p <;> rfl
theorem encode_pop (p : StackPair) : encode (Instr.pop p) = [opByte 3 (2 * p.code) 1] := by cases p <;> rfl

/-! A displacement added to an address -/

/-- The sign-extended byte adds modulo 2^16 what its two's-complement number adds (R16, R132). -/
theorem add_sext16_eq_ofInt (a : Word) (e : Byte) : a + sext16 e = BitVec.ofInt 16 (a.toNat + e.toInt) := by
  rw [BitVec.ofInt_add, BitVec.ofInt_natCast, BitVec.ofNat_toNat, BitVec.setWidth_eq]
  rfl

/-- The displacement as a signed number, the flags as those of the unsigned byte addition (R203). -/
theorem ldHLSPPlusE_eq (e : Byte) (s : State) : ldHLSPPlusE e s =
    tick 4 ((s.setFlags false false (s.cpu.sp.toNat % 16 + e.toNat % 16 > 15)
      (s.cpu.sp.toNat % 256 + e.toNat > 255)).setPair .hl (BitVec.ofInt 16 (s.cpu.sp.toNat + e.toInt))) := by
  rw [← add_sext16_eq_ofInt]
  rfl

/-! The stack pairs -/

/-- Time changes no register of a stack pair. -/
@[simp] theorem readStackPair_tick (p : StackPair) (n : Nat) (s : State) :
    readStackPair p (tick n s) = readStackPair p s := by
  cases p <;> simp [readStackPair, State.pair, State.af]

/-- PUSH stores the pair as it was before the internal cycle (R206). -/
theorem push_eq (p : StackPair) (s : State) :
    push p s = memWrite2 (s.cpu.sp - 2) (readStackPair p s) ((tick 4 s).setSp (s.cpu.sp - 2)) := by
  rw [push, push16_eq, readStackPair_tick, tick_cpu]

/-- POP reads at SP as it was, and moves SP before it writes the pair (R205, R207). -/
theorem pop_eq (p : StackPair) (s : State) :
    pop p s = writeStackPair p (memRead2 s.cpu.sp s).1 ((memRead2 s.cpu.sp s).2.setSp (s.cpu.sp + 2)) := by
  rw [pop, pop16_eq]

/-- Settles O44, form by form: only LD HL,SP+e needs an argument, its displacement being sign-extended in the model. -/
theorem pairLoads : Obligations.PairLoads := by
  unfold Obligations.PairLoads
  exact ⟨fun p nn s => ⟨encode_ldPairImm p nn, exec_ldPairImm p nn s⟩,
    fun nn s => ⟨rfl, rfl⟩,
    fun s => ⟨rfl, rfl⟩,
    fun e s => ⟨rfl, congrArg Host.Outcome.next (ldHLSPPlusE_eq e s)⟩⟩

/-- Settles O45, pair by pair, from what PUSH stores and what POP reads back. -/
theorem pushAndPop : Obligations.PushAndPop := by
  unfold Obligations.PushAndPop
  constructor
  · intro p s
    refine ⟨encode_push p, ?_⟩
    rw [exec_push, push_eq]
    cases p <;> rfl
  · intro p s
    refine ⟨encode_pop p, _, _, rfl, rfl, ?_⟩
    rw [exec_pop, pop_eq]
    cases p <;> rfl

end Sys2Proof.Machine
end

section
/-! SUPPORT. 8-bit arithmetic and logic (spec/42_alu8.md): the bytes of each operand form, A and F written together, each row of the
flag table as a result, and DAA on packed decimal digits (O46 to O51). -/

namespace Sys2Proof.Machine

/-! The bytes of the operand forms (R140, R142) -/

theorem encode_alu (op : AluOp) (x : Loc8) : encode (Instr.alu op x) = [opByte 2 op.code x.code] := by
  cases op <;> rcases x with (_ | _ | _ | _ | _ | _ | _) | _ <;> rfl
theorem encode_inc (x : Loc8) : encode (Instr.inc x) = [opByte 0 x.code 4] := by
  rcases x with (_ | _ | _ | _ | _ | _ | _) | _ <;> rfl
theorem encode_dec (x : Loc8) : encode (Instr.dec x) = [opByte 0 x.code 5] := by
  rcases x with (_ | _ | _ | _ | _ | _ | _) | _ <;> rfl

/-! A and F written together -/

/-- The write path to F stores a flag byte whole, so A and F get the values given (R35). -/
theorem State.setReg8_a_setF_packFlags (r : Byte) (z n h c : Bool) (s : State) :
    (s.setReg8 .a r).setF (packFlags z n h c) = s.withAF r z n h c := by
  rw [State.setF, packFlags_masked]
  rfl

theorem State.setFlags_eq_withAF (z n h c : Bool) (s : State) : s.setFlags z n h c = s.withAF s.cpu.a z n h c :=
  State.setReg8_a_setF_packFlags s.cpu.a z n h c s

theorem State.withAF_bits (a : Byte) (z n h c : Bool) (s : State) : (s.withAF a z n h c).flagZ = z ∧
    (s.withAF a z n h c).flagN = n ∧ (s.withAF a z n h c).flagH = h ∧ (s.withAF a z n h c).flagC = c :=
  packFlags_bits z n h c

/-! The accumulator block on an operand (R220): the meaning of each form follows from its result on the operand's value -/

/-- Reading an operand leaves A and C, which the operation then finds as they were before the read. -/
theorem a_flagC_of_readLoc8 {x : Loc8} {s s1 : State} {v : Byte} (hx : readLoc8 x s = (v, s1)) :
    s1.cpu.a = s.cpu.a ∧ s1.flagC = s.flagC := by
  have hcpu := readLoc8_cpu x s
  rw [hx] at hcpu
  rw [State.flagC, hcpu]
  exact ⟨rfl, rfl⟩

section
variable {op : AluOp} {s : State} {v r : Byte} {z n h c : Bool}

theorem aluApply_of_result (hr : aluResult op s.cpu.a v s.flagC = (r, packFlags z n h c)) :
    aluApply op v s = s.withAF r z n h c := by
  rw [aluApply, hr]
  exact State.setReg8_a_setF_packFlags r z n h c s

theorem exec_aluImm_of_result (hr : aluResult op s.cpu.a v s.flagC = (r, packFlags z n h c)) :
    exec (Instr.aluImm op v) s = .next (s.withAF r z n h c) := by
  rw [exec_aluImm, aluImm, aluApply_of_result hr]

theorem exec_alu_of_result {x : Loc8} {s1 : State} (hx : readLoc8 x s = (v, s1))
    (hr : aluResult op s.cpu.a v s.flagC = (r, packFlags z n h c)) :
    exec (Instr.alu op x) s = .next (s1.withAF r z n h c) := by
  obtain ⟨ha, hc⟩ := a_flagC_of_readLoc8 hx
  rw [← ha, ← hc] at hr
  rw [exec_alu, aluLoc, hx]
  exact congrArg Host.Outcome.next (aluApply_of_result hr)

end

/-! The results of the eight operations (R221 to R228) -/

section
variable (a v : Byte) (c : Bool)

theorem aluResult_add : aluResult .add a v c = (BitVec.ofNat 8 (a.toNat + v.toNat),
    packFlags ((a.toNat + v.toNat) % 256 = 0) false (a.toNat % 16 + v.toNat % 16 > 0x0F) (a.toNat + v.toNat > 0xFF)) := rfl

theorem aluResult_adc : aluResult .adc a v c = (BitVec.ofNat 8 (a.toNat + v.toNat + c.toNat),
    packFlags ((a.toNat + v.toNat + c.toNat) % 256 = 0) false (a.toNat % 16 + v.toNat % 16 + c.toNat > 0x0F)
      (a.toNat + v.toNat + c.toNat > 0xFF)) := rfl

/-- The difference of numbers, taken modulo 256, is the difference of bytes. -/
theorem subFlags_eq : subFlags a v c = (a - v - BitVec.ofNat 8 c.toNat, packFlags (a - v - BitVec.ofNat 8 c.toNat = 0) true
    (a.toNat % 16 < v.toNat % 16 + c.toNat) (v.toNat + c.toNat > a.toNat)) := by
  have hd : BitVec.ofInt 8 ((a.toNat : Int) - v.toNat - c.toNat) = a - v - BitVec.ofNat 8 c.toNat := by
    simp only [sub_eq_add_neg, BitVec.ofInt_add, BitVec.ofInt_neg, BitVec.ofInt_natCast, BitVec.ofNat_toNat, BitVec.setWidth_eq]
  rw [subFlags, hd]

theorem aluResult_sub : aluResult .sub a v c =
    (a - v, packFlags (a - v = 0) true (a.toNat % 16 < v.toNat % 16) (v.toNat > a.toNat)) := by
  have h0 : a - v - BitVec.ofNat 8 false.toNat = a - v := BitVec.sub_zero _
  rw [aluResult, subFlags_eq, h0]
  rfl

theorem aluResult_sbc : aluResult .sbc a v c = (a - v - BitVec.ofNat 8 c.toNat,
    packFlags (a - v - BitVec.ofNat 8 c.toNat = 0) true (a.toNat % 16 < v.toNat % 16 + c.toNat)
      (v.toNat + c.toNat > a.toNat)) := subFlags_eq a v c

/-- CP keeps A; the difference is zero exactly when the operand equals A (R228). -/
theorem aluResult_cp : aluResult .cp a v c =
    (a, packFlags (v = a) true (a.toNat % 16 < v.toNat % 16) (v.toNat > a.toNat)) := by
  have hz : (a - v = 0) = (v = a) := propext (sub_eq_zero.trans eq_comm)
  have hsub : aluResult .cp a v c = (a, (aluResult .sub a v c).2) := rfl
  rw [hsub, aluResult_sub]
  simp only [hz]

end

/-- Settles O46: both operand forms of ADD and ADC, each from its one result. -/
theorem addAndAdc : Obligations.AddAndAdc := by
  refine ⟨fun x s s1 v hx => ⟨encode_alu .add x, exec_alu_of_result hx (aluResult_add ..)⟩,
    fun n s => ⟨rfl, exec_aluImm_of_result (op := .add) (aluResult_add ..)⟩, ?_, ?_⟩
  · rintro x s s1 v c hx rfl
    exact ⟨encode_alu .adc x, exec_alu_of_result hx (aluResult_adc ..)⟩
  · rintro n s c rfl
    exact ⟨rfl, exec_aluImm_of_result (op := .adc) (aluResult_adc ..)⟩

/-- Settles O47: both operand forms of SUB, SBC and CP, each from its one result. -/
theorem subSbcAndCp : Obligations.SubSbcAndCp := by
  refine ⟨fun x s s1 v hx => ⟨encode_alu .sub x, exec_alu_of_result hx (aluResult_sub ..)⟩,
    fun n s => ⟨rfl, exec_aluImm_of_result (op := .sub) (aluResult_sub ..)⟩, ?_, ?_,
    fun x s s1 v hx => ⟨encode_alu .cp x, exec_alu_of_result hx (aluResult_cp ..)⟩,
    fun n s => ⟨rfl, exec_aluImm_of_result (op := .cp) (aluResult_cp ..)⟩⟩
  · rintro x s s1 v d c hx rfl rfl
    exact ⟨encode_alu .sbc x, exec_alu_of_result hx (aluResult_sbc ..)⟩
  · rintro n d s c rfl rfl
    exact ⟨rfl, exec_aluImm_of_result (op := .sbc) (aluResult_sbc ..)⟩

/-- Settles O48: the model gives the results of AND, XOR and OR bit by bit as stated, and both operand forms follow. -/
theorem andXorOr : Obligations.AndXorOr :=
  ⟨fun x _ _ _ hx => ⟨encode_alu .and x, encode_alu .xor x, encode_alu .or x,
      exec_alu_of_result hx rfl, exec_alu_of_result hx rfl, exec_alu_of_result hx rfl⟩,
    fun _ _ => ⟨rfl, rfl, rfl, exec_aluImm_of_result (op := .and) rfl, exec_aluImm_of_result (op := .xor) rfl,
      exec_aluImm_of_result (op := .or) rfl⟩⟩

/-! INC and DEC (R231 to R234) -/

/-- Settles O49: reading the operand leaves C, which the flag write puts back. -/
theorem incAndDec8 : Obligations.IncAndDec8 := by
  intro x s s1 v hx
  obtain ⟨-, hc⟩ := a_flagC_of_readLoc8 hx
  refine ⟨encode_inc x, encode_dec x, ?_, ?_⟩
  · rw [exec_inc, incLoc, hx, ← hc]
    rfl
  · rw [exec_dec, decLoc, hx, ← hc]
    rfl

/-! DAA (R235) -/

theorem exec_daa (s : State) : exec .daa s = .next (s.withAF (daaAdjust s.cpu.a s.flagN s.flagH s.flagC).1
    ((daaAdjust s.cpu.a s.flagN s.flagH s.flagC).1 = 0) s.flagN false (daaAdjust s.cpu.a s.flagN s.flagH s.flagC).2) :=
  congrArg Host.Outcome.next (State.setReg8_a_setF_packFlags ..)

/-- DAA never clears C, and sets it after an addition that passed 0x99. -/
theorem daaAdjust_carry (a : Byte) (n h c : Bool) : (daaAdjust a n h c).2 = (c || (!n && decide (a.toNat > 0x99))) := by
  cases n <;> simp [daaAdjust]

theorem daaAdjust_sub_toNat (a : Byte) (h c : Bool) : (daaAdjust a true h c).1.toNat =
    (a.toNat + 512 - (if c = true then 0x60 else 0) - (if h = true then 0x06 else 0)) % 256 := by
  simp only [daaAdjust, if_true]
  split_ifs <;> bv_omega

theorem daaAdjust_add_toNat (a : Byte) (h c : Bool) : (daaAdjust a false h c).1.toNat =
    (a.toNat + (if (daaAdjust a false h c).2 = true then 0x60 else 0) +
      (if h = true ∨ a.toNat % 16 > 9 then 0x06 else 0)) % 256 := by
  simp only [daaAdjust, Bool.false_eq_true, if_false, Bool.or_eq_true, decide_eq_true_eq]
  split_ifs <;> simp [Nat.mod_eq_of_lt a.isLt]

/-- Settles O50: DAA's adjustment as numbers, branch by branch of N, and for the others A and F as written. -/
theorem daaCplScfCcf : Obligations.DaaCplScfCcf := by
  refine ⟨fun s => ⟨rfl, _, _, daaAdjust_carry .., ?_, exec_daa s⟩,
    fun s => ⟨rfl, congrArg Host.Outcome.next (State.setReg8_a_setF_packFlags ..)⟩,
    fun s => ⟨rfl, congrArg Host.Outcome.next (State.setFlags_eq_withAF ..)⟩,
    fun s => ⟨rfl, congrArg Host.Outcome.next (State.setFlags_eq_withAF ..)⟩⟩
  cases s.flagN with
  | true => rw [if_pos rfl, daaAdjust_sub_toNat]
  | false => rw [if_neg Bool.false_ne_true, daaAdjust_add_toNat]

/-! DAA on packed decimal digits (R222, R224, R235) -/

theorem bcd_toNat {k : Nat} (h : k < 100) : (bcd k).toNat = 16 * (k / 10) + k % 10 := by
  rw [bcd, BitVec.toNat_ofNat]
  omega

theorem bcd_eq_zero_iff {k : Nat} (h : k < 100) : bcd k = 0 ↔ k = 0 := by
  rw [← BitVec.toNat_inj, bcd_toNat h]
  show 16 * (k / 10) + k % 10 = 0 ↔ k = 0
  omega

/-- The difference of bytes with a borrow, as a number, lifted by 512 so that no subtraction is cut off. -/
theorem sub_sub_toNat (a v : Byte) (c : Bool) :
    (a - v - BitVec.ofNat 8 c.toNat).toNat = (a.toNat + 512 - v.toNat - c.toNat) % 256 := by
  have hc := c.toNat_le
  rw [BitVec.toNat_sub, BitVec.toNat_sub, BitVec.toNat_ofNat]
  omega

section
variable {m n : Nat} (hm : m < 100) (hn : n < 100) (c : Bool)
include hm hn

/-- The units adjust when and only when the decimal units carry: the nibble carried, or passed 9. -/
theorem bcd_add_units {a : Byte} (ha : a = BitVec.ofNat 8 ((bcd m).toNat + (bcd n).toNat + c.toNat)) :
    ((bcd m).toNat % 16 + (bcd n).toNat % 16 + c.toNat > 0x0F ∨ a.toNat % 16 > 9) ↔ m % 10 + n % 10 + c.toNat > 9 := by
  have hc := c.toNat_le
  rw [ha, BitVec.toNat_ofNat, bcd_toNat hm, bcd_toNat hn]
  omega

/-- The tens adjust when and only when the decimal sum passes 99: the byte carried, or passed 0x99. -/
theorem bcd_add_tens {a : Byte} (ha : a = BitVec.ofNat 8 ((bcd m).toNat + (bcd n).toNat + c.toNat)) :
    ((bcd m).toNat + (bcd n).toNat + c.toNat > 0xFF ∨ a.toNat > 0x99) ↔ m + n + c.toNat ≥ 100 := by
  have hc := c.toNat_le
  have hsum : ((bcd m).toNat + (bcd n).toNat + c.toNat > 0xFF ∨ a.toNat > 0x99) ↔
      (bcd m).toNat + (bcd n).toNat + c.toNat > 0x99 := by
    rw [ha, BitVec.toNat_ofNat]
    omega
  rw [hsum, bcd_toNat hm, bcd_toNat hn]
  omega

/-- With both adjustments made where the decimal sum carries, DAA leaves its digits (R222, R235). -/
theorem daaAdjust_bcd_add {a : Byte} (ha : a = BitVec.ofNat 8 ((bcd m).toNat + (bcd n).toNat + c.toNat)) :
    daaAdjust a false ((bcd m).toNat % 16 + (bcd n).toNat % 16 + c.toNat > 0x0F)
      ((bcd m).toNat + (bcd n).toNat + c.toNat > 0xFF) =
      (bcd ((m + n + c.toNat) % 100), decide (m + n + c.toNat ≥ 100)) := by
  have hcarry (h : Bool) : (daaAdjust a false h ((bcd m).toNat + (bcd n).toNat + c.toNat > 0xFF)).2 =
      decide (m + n + c.toNat ≥ 100) := by
    simp only [daaAdjust_carry, Bool.not_false, Bool.true_and, ← Bool.decide_or, bcd_add_tens hm hn c ha]
  refine Prod.ext (BitVec.eq_of_toNat_eq ?_) (hcarry _)
  have hc := c.toNat_le
  rw [daaAdjust_add_toNat, hcarry, bcd_toNat (Nat.mod_lt _ (by decide))]
  simp only [decide_eq_true_eq, bcd_add_units hm hn c ha]
  rw [ha, BitVec.toNat_ofNat, bcd_toNat hm, bcd_toNat hn]
  split_ifs <;> omega

/-- A borrow between packed digits is a borrow between decimal digits, in the units and in the whole. -/
theorem daaAdjust_bcd_sub {a : Byte} (ha : a = bcd m - bcd n - BitVec.ofNat 8 c.toNat) :
    daaAdjust a true ((bcd m).toNat % 16 < (bcd n).toNat % 16 + c.toNat) ((bcd n).toNat + c.toNat > (bcd m).toNat) =
      (bcd ((m + 100 - n - c.toNat) % 100), decide (m < n + c.toNat)) := by
  have hc := c.toNat_le
  have hunits : (bcd m).toNat % 16 < (bcd n).toNat % 16 + c.toNat ↔ m % 10 < n % 10 + c.toNat := by
    rw [bcd_toNat hm, bcd_toNat hn]
    omega
  have hborrow : (bcd n).toNat + c.toNat > (bcd m).toNat ↔ m < n + c.toNat := by
    rw [bcd_toNat hm, bcd_toNat hn]
    omega
  simp only [hunits, hborrow]
  refine Prod.ext (BitVec.eq_of_toNat_eq ?_) (by simp [daaAdjust_carry])
  rw [daaAdjust_sub_toNat, ha, sub_sub_toNat, bcd_toNat (Nat.mod_lt _ (by decide)), bcd_toNat hm, bcd_toNat hn]
  simp only [decide_eq_true_eq]
  split_ifs <;> omega

end

/-- An operation on A and then DAA: the adjustment of the operation's own result and flags. -/
theorem exec_aluImm_then_daa {op : AluOp} {s : State} {v a : Byte} {z n h c d : Bool} {k : Nat} (hk : k < 100)
    (hr : aluResult op s.cpu.a v s.flagC = (a, packFlags z n h c)) (hd : daaAdjust a n h c = (bcd k, d)) :
    ∃ s1 t, exec (Instr.aluImm op v) s = .next s1 ∧ exec .daa s1 = .next t ∧
      t.cpu.a = bcd k ∧ t.flagC = d ∧ t.flagZ = decide (k = 0) := by
  refine ⟨_, _, exec_aluImm_of_result hr, exec_daa _, ?_⟩
  obtain ⟨-, hn, hh, hc⟩ := State.withAF_bits a z n h c s
  have ha : (s.withAF a z n h c).cpu.a = a := rfl
  obtain ⟨hz', -, -, hc'⟩ := State.withAF_bits (bcd k) (bcd k = 0) n false d (s.withAF a z n h c)
  rw [ha, hn, hh, hc, hd]
  exact ⟨rfl, hc', hz'.trans (decide_eq_decide.mpr (bcd_eq_zero_iff hk))⟩

/-- Settles O51: ADC and SBC leave the flags that DAA reads, and on packed digits those are the decimal carries and borrows. -/
theorem daaAddsBcd : Obligations.DaaAddsBcd := by
  intro m n s hm hn ha
  constructor
  · exact exec_aluImm_then_daa (op := .adc) (Nat.mod_lt _ (by decide)) (aluResult_adc ..)
      (ha ▸ daaAdjust_bcd_add hm hn s.flagC rfl)
  · exact exec_aluImm_then_daa (op := .sbc) (Nat.mod_lt _ (by decide)) (aluResult_sbc ..)
      (ha ▸ daaAdjust_bcd_sub hm hn s.flagC rfl)

end Sys2Proof.Machine
end

section
/-! SUPPORT. 16-bit arithmetic (spec/43_alu16.md): the bytes of the pair forms, and the sums of ADD HL and ADD SP,e as the numbers
that R272 and R273 name (O52). -/

namespace Sys2Proof.Machine

/-! The bytes of the pair forms (R135, R140) -/

theorem encode_incPair (p : Pair) : encode (Instr.incPair p) = [opByte 0 (2 * p.code) 3] := by cases p <;> rfl
theorem encode_decPair (p : Pair) : encode (Instr.decPair p) = [opByte 0 (2 * p.code + 1) 3] := by cases p <;> rfl
theorem encode_addHLPair (p : Pair) : encode (Instr.addHLPair p) = [opByte 0 (2 * p.code + 1) 1] := by cases p <;> rfl

/-! The two additions that write flags -/

/-- The carries out of bits 11 and 15, Z kept, and the sum of numbers modulo 65536 as the sum of words (R272). -/
theorem addHLPair_eq (p : Pair) (s : State) : addHLPair p s =
    tick 4 ((s.setFlags s.flagZ false ((s.pair .hl).toNat % 4096 + (s.pair p).toNat % 4096 > 0x0FFF)
      ((s.pair .hl).toNat + (s.pair p).toNat > 0xFFFF)).setPair .hl (s.pair .hl + s.pair p)) := by
  rw [BitVec.add_def]
  rfl

/-- The displacement as a signed number, the flags as those of the unsigned byte addition (R273). -/
theorem addSPE_eq (e : Byte) (s : State) : addSPE e s =
    tick 8 ((s.setFlags false false (s.cpu.sp.toNat % 16 + e.toNat % 16 > 15)
      (s.cpu.sp.toNat % 256 + e.toNat > 255)).setSp (BitVec.ofInt 16 (s.cpu.sp.toNat + e.toInt))) := by
  rw [← add_sext16_eq_ofInt]
  rfl

/-- Settles O52, form by form: INC and DEC are the model's own steps of a pair, and the additions are the two equations above. -/
theorem arithmetic16 : Obligations.Arithmetic16 := by
  unfold Obligations.Arithmetic16
  exact ⟨fun p s => ⟨encode_incPair p, exec_incPair p s⟩,
    fun p s => ⟨encode_decPair p, exec_decPair p s⟩,
    fun p s => ⟨encode_addHLPair p, (exec_addHLPair p s).trans (congrArg Host.Outcome.next (addHLPair_eq p s))⟩,
    fun e s => ⟨rfl, congrArg Host.Outcome.next (addSPE_eq e s)⟩⟩

end Sys2Proof.Machine
end

section
/-! SUPPORT. Rotates, shifts and bit operations (spec/44_rotate_shift_bit.md): the bytes of the 0xCB block, the rotates and shifts as
numbers, and the byte with one bit cleared or set bit by bit (O53, O54). -/

namespace Sys2Proof.Machine

/-! The bytes of the 0xCB block (R144): its second byte holds the operation and the operand by their places in the tables -/

theorem encode_cbOf (x : Fin 4) (y z : Fin 8) : encode (cbOf x y z) = [0xCB, opByte x y z] := by
  have hx : fieldX (opByte x y z) = x := by ext; simp only [opByte, fieldX, BitVec.toNat_ofNat]; omega
  have hy : fieldY (opByte x y z) = y := by ext; simp only [opByte, fieldY, BitVec.toNat_ofNat]; omega
  have hz : fieldZ (opByte x y z) = z := by ext; simp only [opByte, fieldZ, BitVec.toNat_ofNat]; omega
  rw [← encode_cbInstr, cbInstr_eq_cbOf, hx, hy, hz]

theorem code_loc8Of : ∀ z : Fin 8, (loc8Of z).code = z := by decide
theorem code_rotOf : ∀ y : Fin 8, (rotOf y).code = y := by decide

theorem encode_rot (op : RotOp) (x : Loc8) : encode (Instr.rot op x) = [0xCB, opByte 0 op.code x.code] := by
  obtain ⟨y, rfl⟩ := rotOf_surjective op
  obtain ⟨z, rfl⟩ := loc8Of_surjective x
  rw [code_rotOf, code_loc8Of]
  exact encode_cbOf 0 y z

theorem encode_bit (b : Fin 8) (x : Loc8) : encode (Instr.bit b x) = [0xCB, opByte 1 b x.code] := by
  obtain ⟨z, rfl⟩ := loc8Of_surjective x
  exact code_loc8Of z ▸ encode_cbOf 1 b z

theorem encode_res (b : Fin 8) (x : Loc8) : encode (Instr.res b x) = [0xCB, opByte 2 b x.code] := by
  obtain ⟨z, rfl⟩ := loc8Of_surjective x
  exact code_loc8Of z ▸ encode_cbOf 2 b z

theorem encode_set (b : Fin 8) (x : Loc8) : encode (Instr.set b x) = [0xCB, opByte 3 b x.code] := by
  obtain ⟨z, rfl⟩ := loc8Of_surjective x
  exact code_loc8Of z ▸ encode_cbOf 3 b z

/-! The rotates and shifts as numbers (R280 to R292) -/

section
variable (v : Byte) (c : Bool)

theorem toNat_getLsbD_seven : (v.getLsbD 7).toNat = v.toNat / 128 := by
  have hv := v.isLt
  rw [BitVec.getLsbD, Nat.toNat_testBit]
  omega

theorem toNat_getLsbD_zero : (v.getLsbD 0).toNat = v.toNat % 2 := by
  rw [BitVec.getLsbD, Nat.toNat_testBit, pow_zero, Nat.div_one]

theorem getLsbD_seven_eq_decide : v.getLsbD 7 = decide (v.toNat / 128 = 1) := by
  rw [← toNat_getLsbD_seven]
  cases v.getLsbD 7 <;> rfl

theorem getLsbD_zero_eq_decide : v.getLsbD 0 = decide (v.toNat % 2 = 1) := by
  rw [← toNat_getLsbD_zero]
  cases v.getLsbD 0 <;> rfl

/-- A byte whose low bits are clear, with low bits put there, is their sum as numbers. -/
theorem or_eq_ofNat {x y : Byte} (i a n : Nat) (hx : x.toNat = 2 ^ i * a) (hy : y.toNat < 2 ^ i)
    (hn : x.toNat + y.toNat = n % 256) :
    x ||| y = BitVec.ofNat 8 n := by
  apply BitVec.eq_of_toNat_eq
  rw [BitVec.toNat_or, hx, ← Nat.two_pow_add_eq_or_of_lt hy, ← hx, hn]
  rfl

theorem toNat_setWidth_ofBool : ((BitVec.ofBool c).setWidth 8).toNat = c.toNat := by
  cases c <;> rfl

theorem toNat_setWidth_ofBool_shiftLeft : ((BitVec.ofBool c).setWidth 8 <<< 7).toNat = 2 ^ 7 * c.toNat := by
  cases c <;> rfl

theorem toNat_shiftLeft_byte (k : Nat) : (v <<< k).toNat = v.toNat * 2 ^ k % 256 := by
  rw [BitVec.toNat_shiftLeft, Nat.shiftLeft_eq]

theorem toNat_shiftRight_byte (k : Nat) : (v >>> k).toNat = v.toNat / 2 ^ k := by
  rw [BitVec.toNat_ushiftRight, Nat.shiftRight_eq_div_pow]

/-- The bit shifted in from the right stands where the doubled byte has a zero. -/
theorem shiftLeft_or_bit : (v <<< 1) ||| (BitVec.ofBool c).setWidth 8 = BitVec.ofNat 8 (2 * v.toNat + c.toNat) := by
  have hc := c.toNat_le
  have hx := toNat_shiftLeft_byte v 1
  have hy := toNat_setWidth_ofBool c
  exact or_eq_ofNat 1 (v.toNat % 128) _ (by omega) (by omega) (by omega)

/-- The bit shifted in from the left stands where the halved byte has a zero. -/
theorem shiftRight_or_bit :
    (v >>> 1) ||| ((BitVec.ofBool c).setWidth 8 <<< 7) = BitVec.ofNat 8 (v.toNat / 2 + 128 * c.toNat) := by
  have hv := v.isLt
  have hc := c.toNat_le
  have hx := toNat_setWidth_ofBool_shiftLeft c
  have hy := toNat_shiftRight_byte v 1
  rw [BitVec.or_comm]
  exact or_eq_ofNat 7 c.toNat _ hx (by omega) (by omega)

/-- The nibbles change places. -/
theorem shiftLeft_or_shiftRight : (v <<< 4) ||| (v >>> 4) = BitVec.ofNat 8 (v.toNat % 16 * 16 + v.toNat / 16) := by
  have hv := v.isLt
  have hx := toNat_shiftLeft_byte v 4
  have hy := toNat_shiftRight_byte v 4
  exact or_eq_ofNat 4 (v.toNat % 16) _ (by omega) (by omega) (by omega)

/-! RL and RR shift the carry in; each other operation but SWAP is one of the two with its own bit in the carry's place. -/

theorem rotResult_rl : rotResult .rl v c = (BitVec.ofNat 8 (2 * v.toNat + c.toNat), decide (v.toNat / 128 = 1)) := by
  rw [rotResult, shiftLeft_or_bit, getLsbD_seven_eq_decide]

theorem rotResult_rr : rotResult .rr v c = (BitVec.ofNat 8 (v.toNat / 2 + 128 * c.toNat), decide (v.toNat % 2 = 1)) := by
  rw [rotResult, shiftRight_or_bit, getLsbD_zero_eq_decide]

theorem rotResult_rlc : rotResult .rlc v c = (BitVec.ofNat 8 (2 * v.toNat + v.toNat / 128), decide (v.toNat / 128 = 1)) := by
  have hrl : rotResult .rlc v c = rotResult .rl v (v.getLsbD 7) := rfl
  rw [hrl, rotResult_rl, toNat_getLsbD_seven]

theorem rotResult_rrc :
    rotResult .rrc v c = (BitVec.ofNat 8 (v.toNat / 2 + 128 * (v.toNat % 2)), decide (v.toNat % 2 = 1)) := by
  have hrr : rotResult .rrc v c = rotResult .rr v (v.getLsbD 0) := rfl
  rw [hrr, rotResult_rr, toNat_getLsbD_zero]

theorem rotResult_sla : rotResult .sla v c = (BitVec.ofNat 8 (2 * v.toNat), decide (v.toNat / 128 = 1)) := by
  have hrl : rotResult .sla v c = rotResult .rl v false := congrArg (·, v.getLsbD 7) BitVec.or_zero.symm
  exact hrl.trans (rotResult_rl v false)

theorem rotResult_srl : rotResult .srl v c = (BitVec.ofNat 8 (v.toNat / 2), decide (v.toNat % 2 = 1)) := by
  have hrr : rotResult .srl v c = rotResult .rr v false := congrArg (·, v.getLsbD 0) BitVec.or_zero.symm
  exact hrr.trans (rotResult_rr v false)

theorem and_0x80 : v &&& 0x80#8 = (BitVec.ofBool (v.getLsbD 7)).setWidth 8 <<< 7 := by
  refine (BitVec.and_twoPow v 7).trans ?_
  cases v.getLsbD 7 <;> rfl

theorem rotResult_sra :
    rotResult .sra v c = (BitVec.ofNat 8 (v.toNat / 2 + 128 * (v.toNat / 128)), decide (v.toNat % 2 = 1)) := by
  have hrr : rotResult .sra v c = rotResult .rr v (v.getLsbD 7) := congrArg (fun t => (v >>> 1 ||| t, v.getLsbD 0)) (and_0x80 v)
  rw [hrr, rotResult_rr, toNat_getLsbD_seven]

theorem rotResult_swap : rotResult .swap v c = (BitVec.ofNat 8 (v.toNat % 16 * 16 + v.toNat / 16), false) := by
  rw [rotResult, shiftLeft_or_shiftRight]

end

/-! Each form from its result on the operand's value -/

theorem exec_rot_of_result {op : RotOp} {x : Loc8} {s s1 : State} {v r : Byte} {out : Bool} (hx : readLoc8 x s = (v, s1))
    (hr : rotResult op v s.flagC = (r, out)) :
    exec (Instr.rot op x) s = .next (writeLoc8 x r (s1.setFlags (r = 0) false false out)) := by
  obtain ⟨-, hc⟩ := a_flagC_of_readLoc8 hx
  rw [exec_rot, rotLoc, hx]
  simp only [hc, hr]

theorem rotA_of_result {op : RotOp} {s : State} {r : Byte} {out : Bool} (hr : rotResult op s.cpu.a s.flagC = (r, out)) :
    rotA op s = s.withAF r false false false out := by
  rw [rotA, hr]
  exact State.setReg8_a_setF_packFlags r false false false out s

/-- Settles O53: every form from its row; a right shift and SWAP never pass 255, so their numbers are the result as they stand. -/
theorem rotatesAndShifts : Obligations.RotatesAndShifts := by
  constructor
  · rintro s a c rfl rfl
    exact ⟨rfl, rfl, rfl, rfl, congrArg Host.Outcome.next (rotA_of_result (rotResult_rlc ..)),
      congrArg Host.Outcome.next (rotA_of_result (rotResult_rrc ..)),
      congrArg Host.Outcome.next (rotA_of_result (rotResult_rl ..)),
      congrArg Host.Outcome.next (rotA_of_result (rotResult_rr ..))⟩
  · rintro op x s s1 v c hx rfl
    refine ⟨encode_rot op x, ?_⟩
    have hv := v.isLt
    have hc := s.flagC.toNat_le
    cases op with
    | rlc => exact ⟨_, _, exec_rot_of_result hx (rotResult_rlc ..), rfl, rfl⟩
    | rrc => exact ⟨_, _, exec_rot_of_result hx (rotResult_rrc ..), Nat.mod_eq_of_lt (by omega), rfl⟩
    | rl => exact ⟨_, _, exec_rot_of_result hx (rotResult_rl ..), rfl, rfl⟩
    | rr => exact ⟨_, _, exec_rot_of_result hx (rotResult_rr ..), Nat.mod_eq_of_lt (by omega), rfl⟩
    | sla => exact ⟨_, _, exec_rot_of_result hx (rotResult_sla ..), rfl, rfl⟩
    | sra => exact ⟨_, _, exec_rot_of_result hx (rotResult_sra ..), Nat.mod_eq_of_lt (by omega), rfl⟩
    | swap => exact ⟨_, _, exec_rot_of_result hx (rotResult_swap ..), Nat.mod_eq_of_lt (by omega), rfl⟩
    | srl => exact ⟨_, _, exec_rot_of_result hx (rotResult_srl ..), Nat.mod_eq_of_lt (by omega), rfl⟩

/-! One bit (R293 to R295) -/

theorem getLsbD_clearBit (b : Fin 8) (v : Byte) (i : Nat) :
    (clearBit b v).getLsbD i = if i = b.val then false else v.getLsbD i := by
  rw [clearBit, ← BitVec.twoPow_eq, BitVec.getLsbD_and, BitVec.getLsbD_not, BitVec.getLsbD_twoPow]
  split
  · next heq => simp [heq]
  · next hne =>
    rcases lt_or_ge i 8 with hi | hi
    · simp [hi, Ne.symm hne]
    · simp [BitVec.getLsbD_of_ge v i hi]

theorem getLsbD_setBit (b : Fin 8) (v : Byte) (i : Nat) :
    (setBit b v).getLsbD i = if i = b.val then true else v.getLsbD i := by
  rw [setBit, ← BitVec.twoPow_eq, BitVec.getLsbD_or, BitVec.getLsbD_twoPow]
  split
  · next heq => simp [heq]
  · next hne => simp [Ne.symm hne]

/-- Settles O54: BIT finds C as the read left it, and RES and SET write back the byte with the one bit changed. -/
theorem bitResSet : Obligations.BitResSet := by
  intro b x s s1 v hx
  obtain ⟨-, hc⟩ := a_flagC_of_readLoc8 hx
  refine ⟨encode_bit b x, encode_res b x, encode_set b x, ?_, ⟨clearBit b v, ?_, getLsbD_clearBit b v⟩,
    ⟨setBit b v, ?_, getLsbD_setBit b v⟩⟩
  · rw [exec_bit, bitLoc, hx, ← hc]
  · rw [exec_res, resLoc, hx]
  · rw [exec_set, setLoc, hx]

end Sys2Proof.Machine
end

section
/-! SUPPORT. Jumps, calls and returns (spec/45_control.md): the bytes of the conditional forms, JR's target as a signed sum, and what
a call pushes and a return pops (O55, O56). -/

namespace Sys2Proof.Machine

/-! The bytes of the conditional forms and of RST (R137, R140) -/

theorem encode_jrCond (cc : Cond) (e : Byte) : encode (Instr.jrCond cc e) = [opByte 0 (4 + cc.code) 0, e] := by
  cases cc <;> rfl
theorem encode_jpCond (cc : Cond) (nn : Word) :
    encode (Instr.jpCond cc nn) = [opByte 3 cc.code 2, loByte nn, hiByte nn] := by cases cc <;> rfl
theorem encode_callCond (cc : Cond) (nn : Word) :
    encode (Instr.callCond cc nn) = [opByte 3 cc.code 4, loByte nn, hiByte nn] := by cases cc <;> rfl
theorem encode_retCond (cc : Cond) : encode (Instr.retCond cc) = [opByte 3 cc.code 0] := by cases cc <;> rfl
theorem encode_rst (y : Fin 8) : encode (Instr.rst y) = [opByte 3 y 7] := by fin_cases y <;> rfl

/-! What each form does when it is taken -/

/-- JR's displacement counts as a signed number from the PC after the instruction (R330). -/
theorem jr_eq (e : Byte) (s : State) : jr e s = tick 4 (s.setPc (BitVec.ofInt 16 (s.cpu.pc.toNat + e.toInt))) := by
  rw [jr, add_sext16_eq_ofInt]

/-- CALL pushes at SP as it was before the internal cycle, and the PC that stood then (R335). -/
theorem call_eq (nn : Word) (s : State) :
    call nn s = (memWrite2 (s.cpu.sp - 2) s.cpu.pc ((tick 4 s).setSp (s.cpu.sp - 2))).setPc nn := by
  rw [call, push16_eq, tick_cpu]

/-- RET goes to the word read at SP, and moves SP past it before the internal cycle (R337). -/
theorem ret_eq {s u : State} {v : Word} (hpop : memRead2 s.cpu.sp s = (v, u)) :
    ret s = tick 4 ((u.setSp (s.cpu.sp + 2)).setPc v) := by
  rw [ret, pop16_eq, hpop]

/-- RETI is RET, and IME set after it (R339). -/
theorem reti_eq (s : State) : reti s = (ret s).setIme true := rfl

/-- Time changes no condition. -/
@[simp] theorem condHolds_tick (cc : Cond) (n : Nat) (s : State) : condHolds cc (tick n s) = condHolds cc s :=
  condHolds_congr cc (by rw [tick_cpu])

/-- RET cc tests the condition as it was before its first internal cycle (R338). -/
theorem retCond_eq (cc : Cond) (s : State) :
    retCond cc s = if condHolds cc s then ret (tick 4 s) else tick 4 s := by
  rw [retCond, condHolds_tick]

/-- Settles O55, form by form: only JR needs an argument, its displacement being sign-extended in the model. -/
theorem jumps : Obligations.Jumps := by
  unfold Obligations.Jumps
  simp only [← jr_eq]
  exact ⟨fun e s => ⟨rfl, rfl⟩,
    fun cc e s => ⟨encode_jrCond cc e, exec_jrCond cc e s⟩,
    fun nn s => ⟨rfl, rfl⟩,
    fun cc nn s => ⟨encode_jpCond cc nn, exec_jpCond cc nn s⟩,
    fun s => ⟨rfl, rfl⟩⟩

/-- Settles O56: RST and the conditional calls are CALL, RETI and the conditional returns are RET. -/
theorem callsAndReturns : Obligations.CallsAndReturns := by
  unfold Obligations.CallsAndReturns
  simp only [← call_eq]
  refine ⟨fun nn s => ⟨rfl, rfl⟩,
    fun cc nn s => ⟨encode_callCond cc nn, exec_callCond cc nn s⟩,
    fun y s => ⟨encode_rst y, exec_rst y s⟩, ?_, ?_⟩
  · intro s u v hpop
    rw [← ret_eq hpop]
    exact ⟨rfl, rfl, rfl, congrArg Host.Outcome.next (reti_eq s)⟩
  · intro cc s u v hpop
    have hsp : (tick 4 s).cpu.sp = s.cpu.sp := by rw [tick_cpu]
    rw [← hsp] at hpop ⊢
    rw [exec_retCond, retCond_eq, ret_eq hpop]
    exact ⟨encode_retCond cc, rfl⟩

end Sys2Proof.Machine
end

section
/-! SUPPORT. System instructions and the unrecognised bytes (spec/46_system.md): what the fetch of one of the eleven bytes selects,
its meaning from its encoding, and the stop that the latch brings (O7, O57). -/

namespace Sys2Proof.Machine

/-! The fatal error (R355, R400, R402) -/

/-- One of the eleven bytes is an instruction of its own: nothing more is fetched. -/
theorem fetchInstr_of_mem_unrecognisedBytes {s : State} (h : (fetch8 s).1 ∈ unrecognisedBytes) :
    encode (fetchInstr s).1 = [(fetch8 s).1] ∧ (fetchInstr s).2 = (fetch8 s).2 := by
  obtain ⟨i, hp, -⟩ := plan_of_mem_unrecognisedBytes h
  have agrees := plan_agrees (fetch8 s).1
  rw [hp] at agrees
  rw [fetchInstr_eq, hp]
  exact ⟨agrees.1, rfl⟩

/-- The byte that an unrecognised instruction latches is the one that encodes it. -/
theorem exec_of_encode_unrecognised {i : Instr} {b : Byte} (he : encode i = [b]) (hb : b ∈ unrecognisedBytes) (s : State) :
    exec i s = .next (raiseFatal b (s.cpu.pc - 1) s) := by
  rw [exec_unrecognised i ((Instr.isUnrecognised_iff i).2 ⟨b, hb, he⟩), he]
  rfl

/-- The latch suppresses the interrupt check. -/
theorem finishStep_raiseFatal (b : Byte) (addr : Word) (s : State) :
    finishStep (.next (raiseFatal b addr s)) = .next (raiseFatal b addr s) := rfl

/-- The latch is the next step's fault. -/
theorem step_raiseFatal (b : Byte) (addr : Word) (s : State) : step (raiseFatal b addr s) = .fault (.fatal b addr) := rfl

/-- Settles O7: the one fetch selects the byte's own instruction, whose latch holds the address before PC, which is where the fetch
began. -/
theorem fatalErrorLatches : Obligations.FatalErrorLatches := by
  intro s hf hh hb
  obtain ⟨he, hst⟩ := fetchInstr_of_mem_unrecognisedBytes hb
  have hcpu : (fetch8 (betweenSteps s)).2.cpu = { s.cpu with pc := s.cpu.pc + 1, cyc := s.cpu.cyc + 4 } := by
    rw [fetch8_cpu, betweenSteps_cpu]
  have haddr : (fetch8 (betweenSteps s)).2.cpu.pc - 1 = s.cpu.pc := by simp
  refine ⟨?_, hcpu, step_raiseFatal _ _ _⟩
  rw [step_running hf hh, exec_of_encode_unrecognised he hb, hst, haddr, finishStep_raiseFatal]

/-- Settles O57: the five instructions are their rules R350 to R354, and an unrecognised byte is the meaning of its encoding. -/
theorem systemInstructions : Obligations.SystemInstructions :=
  ⟨fun _ => ⟨rfl, rfl⟩,
    fun _ => ⟨rfl, rfl⟩,
    fun _ => ⟨rfl, rfl⟩,
    fun _ => ⟨rfl, rfl⟩,
    fun _ => ⟨rfl, rfl⟩,
    fun _ _ s he hb => exec_of_encode_unrecognised he hb s⟩

end Sys2Proof.Machine
end

section
/-! SUPPORT. Exceptions (spec/60_exceptions.md): the stop of R402, which request the interrupt check enters and which only wake the
CPU, and the cycles of a step (O8, O19, O40, O41). -/

namespace Sys2Proof.Machine

/-! The fatal error (R401, R402, R545) -/

/-- While no error is latched there is a step: `exec` answers a next state for every instruction. -/
theorem step_exists {s : State} (hf : s.cpu.fault = none) : ∃ t, step s = .next t := by
  cases hh : s.cpu.halted with
  | true => exact ⟨_, step_halted hf hh⟩
  | false =>
    obtain ⟨op, -, hop⟩ := exec_meaning (fetchInstr (betweenSteps s)).1
    rw [step_running hf hh, hop, finishStep]
    split
    · exact ⟨_, rfl⟩
    · exact ⟨_, rfl⟩

/-- Settles O8: a latched error is the step's fault, `step_cases` and `step_exists` are the two directions, and reset latches none. -/
theorem stuckAfterFatalError : Obligations.StuckAfterFatalError :=
  ⟨fun s opcode addr h => by rw [step, h], fun _ _ h => (step_cases h).1, fun _ hf => step_exists hf, fun _ _ _ => rfl⟩

/-! The interrupt check (R405 to R408): the scan's list is the request numbers below 5 in rising order -/

/-- The lowest-numbered request that is set and enabled is entered, whatever disabled requests stand below it (D5). -/
theorem interruptCheck_of_lowest {i : Nat} {s : State} (hi : i < 5) (hime : s.cpu.ime = true)
    (hif : s.ifByte.getLsbD i = true) (hie : s.ieByte.getLsbD i = true)
    (hlow : ∀ j, j < i → s.ifByte.getLsbD j = false ∨ s.ieByte.getLsbD j = false) :
    interruptCheck s = enterInterrupt i (s.setHalted false) := by
  have found : (List.range 5).find? (fun j => s.cpu.ime && (s.ifByte.getLsbD j && s.ieByte.getLsbD j)) = some i := by
    refine List.find?_range_eq_some.2 ⟨by rw [hime, hif, hie]; rfl, List.mem_range.2 hi, fun j hj => ?_⟩
    rcases hlow j hj with h | h <;> simp [h]
  rw [interruptCheck, interruptScan_eq, show [0, 1, 2, 3, 4] = List.range 5 from rfl, found]

/-- Without IME or an enabled request the check at most wakes the CPU (R408). -/
theorem interruptCheck_of_none {s : State}
    (hnone : s.cpu.ime = false ∨ ∀ j, j < 5 → s.ifByte.getLsbD j = false ∨ s.ieByte.getLsbD j = false) :
    interruptCheck s = if (List.range 5).any (fun j => s.ifByte.getLsbD j) then s.setHalted false else s := by
  have missed : (List.range 5).find? (fun j => s.cpu.ime && (s.ifByte.getLsbD j && s.ieByte.getLsbD j)) = none := by
    refine List.find?_eq_none.2 fun j hj => ?_
    rcases hnone with h | h
    · simp [h]
    · rcases h j (List.mem_range.1 hj) with h | h <;> simp [h]
  rw [interruptCheck, interruptScan_eq, show [0, 1, 2, 3, 4] = List.range 5 from rfl, missed]

/-- With IME set and a request enabled, the check enters a handler of no higher number: the least such request's. -/
theorem interruptCheck_of_enabled {i : Nat} {s : State} (hi : i < 5) (hime : s.cpu.ime = true)
    (hif : s.ifByte.getLsbD i = true) (hie : s.ieByte.getLsbD i = true) :
    ∃ j, j ≤ i ∧ interruptCheck s = enterInterrupt j (s.setHalted false) := by
  have enabled : ∃ j, s.ifByte.getLsbD j = true ∧ s.ieByte.getLsbD j = true := ⟨i, hif, hie⟩
  have least := Nat.find_min' enabled ⟨hif, hie⟩
  refine ⟨Nat.find enabled, least, interruptCheck_of_lowest (Nat.lt_of_le_of_lt least hi) hime (Nat.find_spec enabled).1
    (Nat.find_spec enabled).2 fun j hj => ?_⟩
  simpa [Classical.or_iff_not_imp_left] using Nat.find_min enabled hj

/-- A request that finds no handler to enter wakes the CPU and does nothing more. -/
theorem interruptCheck_of_request {i : Nat} {s : State} (hi : i < 5) (hif : s.ifByte.getLsbD i = true)
    (hnone : s.cpu.ime = false ∨ ∀ j, j < 5 → s.ifByte.getLsbD j = false ∨ s.ieByte.getLsbD j = false) :
    interruptCheck s = s.setHalted false := by
  rw [interruptCheck_of_none hnone, if_pos (List.any_eq_true.2 ⟨i, List.mem_range.2 hi, hif⟩)]

theorem interruptCheck_of_no_request {s : State} (hif : ∀ j, j < 5 → s.ifByte.getLsbD j = false) : interruptCheck s = s := by
  rw [interruptCheck_of_none (.inr fun j hj => .inl (hif j hj)), if_neg]
  rw [List.any_eq_true]
  rintro ⟨j, hj, h⟩
  exact Bool.false_ne_true ((hif j (List.mem_range.1 hj)).symm.trans h)

/-- Any request ends HALT: it is entered, another is entered before it, or none is and the CPU only wakes (R408). -/
theorem interruptCheck_halted {i : Nat} {s : State} (hi : i < 5) (hif : s.ifByte.getLsbD i = true) :
    (interruptCheck s).cpu.halted = false := by
  by_cases henter : s.cpu.ime = true ∧ ∃ j, j < 5 ∧ s.ifByte.getLsbD j = true ∧ s.ieByte.getLsbD j = true
  · obtain ⟨hime, j, hj, hjf, hje⟩ := henter
    obtain ⟨k, -, e⟩ := interruptCheck_of_enabled hj hime hjf hje
    rw [e, enterInterrupt_cpu]
    rfl
  · rw [interruptCheck_of_request hi hif]
    · rfl
    · simpa [Classical.or_iff_not_imp_left] using henter

/-- Settles O40: the scan stops at the first request that is set and enabled. -/
theorem lowestEnabledRequestIsEntered : Obligations.LowestEnabledRequestIsEntered :=
  fun _ _ hi hime hif hie hlow => interruptCheck_of_lowest hi hime hif hie hlow

/-- Settles O41, case by case of what the check finds. -/
theorem requestWakesWithoutEntry : Obligations.RequestWakesWithoutEntry :=
  ⟨fun _ _ hi hif => interruptCheck_halted hi hif, fun _ _ hi hif hnone => interruptCheck_of_request hi hif hnone,
    fun _ hif => interruptCheck_of_no_request hif, fun _ _ hi hime hif hie => interruptCheck_of_enabled hi hime hif hie⟩

/-! Cycles of a step (R407, R545, R547) -/

/-- The check spends nothing, or an entry's 16 cycles. -/
theorem interruptCheck_cyc (s : State) :
    (interruptCheck s).cpu.cyc = s.cpu.cyc ∨ (interruptCheck s).cpu.cyc = s.cpu.cyc + 16 := by
  rcases interruptCheck_cases s with ⟨i, _, _, _, _, e⟩ | e | e <;> rw [e]
  · rw [enterInterrupt_cpu]; exact .inr rfl
  · exact .inl rfl
  · exact .inl rfl

/-- Every entry of the opcode table is one of six counts (R547). -/
theorem cycles_mem (i : Instr) (taken : Bool) : i.cycles taken ∈ [4, 8, 12, 16, 20, 24] := by
  refine of_decide_eq_true ?_
  cases i <;> cases taken <;> rfl

/-- An instruction costs what the table says, fetches included. -/
theorem exec_fetchInstr_cyc {s u : State} (h : exec (fetchInstr s).1 (fetchInstr s).2 = .next u) :
    u.cpu.cyc = s.cpu.cyc + (fetchInstr s).1.cycles (taken (fetchInstr s).1 (fetchInstr s).2) := by
  obtain ⟨t, ht, hcyc⟩ := costsTableCycles (fetchInstr s).1 (fetchInstr s).2
  obtain rfl : u = t := by rwa [h, Host.Outcome.next.injEq] at ht
  have fetched : (fetchInstr s).2.cpu.cyc = s.cpu.cyc + 4 * (encode (fetchInstr s).1).length := by
    rw [← (decode_fetchedBytes s).2, fetchedBytes, fetchBytes_cpu, encode_fetchInstr_length]
  omega

/-- Settles O19: an idle tick's 4 cycles or a table entry, and then nothing or an entry's 16. -/
theorem stepCostBounds : Obligations.StepCostBounds := by
  intro s t hstep
  obtain ⟨-, ⟨-, rfl⟩ | ⟨-, u, hu, hend⟩⟩ := step_cases hstep
  · have htick : (tick 4 (betweenSteps s)).cpu.cyc = s.cpu.cyc + 4 := by rw [tick_cpu, betweenSteps_cpu]
    rcases interruptCheck_cyc (tick 4 (betweenSteps s)) with hc | hc <;> rw [hc, htick]
    · exact ⟨1, by omega⟩
    · exact ⟨5, by omega⟩
  · have hcost := exec_fetchInstr_cyc hu
    have hcyc := cycles_mem (fetchInstr (betweenSteps s)).1 (taken (fetchInstr (betweenSteps s)).1
      (fetchInstr (betweenSteps s)).2)
    have hend : t.cpu.cyc = u.cpu.cyc ∨ t.cpu.cyc = u.cpu.cyc + 16 := by
      rcases hend with ⟨-, rfl⟩ | ⟨-, rfl⟩
      · exact interruptCheck_cyc u
      · exact .inl rfl
    rw [betweenSteps_cpu] at hcost
    simp only [List.mem_cons, List.not_mem_nil, or_false] at hcyc
    exact ⟨(t.cpu.cyc - s.cpu.cyc) / 4, by omega⟩

end Sys2Proof.Machine
end

section
/-! SUPPORT. What interrupt entry stores and leaves (R407, R409): a push from the state in which the idle cycles have passed and the
request is cleared, so its memory is what a push does to memory, and IF is followed byte by byte (O39). -/

namespace Sys2Proof.Machine

/-! Two bytes written at adjacent addresses (R96, R103) -/

section
variable {a : Word} {s : State} {k : Nat} (v : Word)

theorem memWrite2_mem_lo (hb : backing a s = .mem k) (hw : s.mem.wf = true) (hk : k ≠ 0xFF0F) :
    (memWrite2 a v s).mem.read k = loByte v := by
  have apart : backing (a + 1) (memWrite a (loByte v) s) ≠ .mem k :=
    fun e => backing_next_mem hb ((backing_memWrite_next a _ s (.mem k) nofun).1 e)
  rw [memWrite2_eq, memWrite_bytes _ _ _ _ apart hk, memWrite_mem hb hw hk]

theorem memWrite2_mem_hi (hb : backing (a + 1) s = .mem k) (hw : s.mem.wf = true) (hk : k ≠ 0xFF0F) :
    (memWrite2 a v s).mem.read k = hiByte v :=
  memWrite_mem ((backing_memWrite_next a _ s (.mem k) nofun).2 hb) (memWrite_wf _ _ _ hw) hk _

theorem memWrite2_ram_lo (hb : backing a s = .ram k) (hw : s.cart.ram.wf = true) :
    (memWrite2 a v s).cart.ram.read k = loByte v := by
  have apart : backing (a + 1) (memWrite a (loByte v) s) ≠ .ram k :=
    fun e => backing_next_ram hb ((backing_memWrite_next a _ s (.ram k) nofun).1 e)
  rw [memWrite2_eq, memWrite_ram_bytes _ _ _ _ apart, memWrite_ram hb hw]

theorem memWrite2_ram_hi (hb : backing (a + 1) s = .ram k) (hw : s.cart.ram.wf = true) :
    (memWrite2 a v s).cart.ram.read k = hiByte v :=
  memWrite_ram ((backing_memWrite_next a _ s (.ram k) nofun).2 hb) (memWrite_ram_wf _ _ _ hw) _
end

/-! The timer through a write: no other part of the state reaches it -/

theorem routeWrite_timer_congr (a : Word) (v : Byte) {s t : State} (h : s.timer = t.timer) :
    (routeWrite a v s).timer = (routeWrite a v t).timer := by
  by_cases ha : 0xFF04 ≤ a.toNat ∧ a.toNat < 0xFF08
  · simp only [routeWrite, region_unique .timer a ha, h]
  · rw [routeWrite_timer a v s (by omega), routeWrite_timer a v t (by omega), h]

theorem memWrite_timer_congr (a : Word) (v : Byte) {s t : State} (h : s.timer = t.timer) :
    (memWrite a v s).timer = (memWrite a v t).timer := by
  rw [memWrite_eq, memWrite_eq, tick_timer, tick_timer, routeWrite_timer_congr a v h]

/-! IF through a write -/

/-- `Raised ext p v w`: IF went from `v` to `w` as requests raise it. No bit is cleared, bits 3 to 7 stay, with the stub the Timer's
bit alone can change, and `p` says whether the Timer asked. -/
def Raised (ext : ExtMode) (p : Bool) (v w : Byte) : Prop :=
  ∃ m : Byte, w = v ||| m ∧ (∀ j, 3 ≤ j → m.getLsbD j = false) ∧ (ext = .stub → ∀ j, j ≠ 2 → m.getLsbD j = false) ∧
    m.getLsbD 2 = p

section
variable {ext : ExtMode} {p q : Bool} {u v w : Byte}

theorem Raised.trans (h : Raised ext p u v) (h' : Raised ext q v w) : Raised ext (p || q) u w := by
  obtain ⟨m, rfl, high, stub, rfl⟩ := h
  obtain ⟨m', rfl, high', stub', rfl⟩ := h'
  refine ⟨m ||| m', BitVec.or_assoc u m m', fun j hj => ?_, fun hs j hj => ?_, BitVec.getLsbD_or⟩
  · rw [BitVec.getLsbD_or, high j hj, high' j hj]; rfl
  · rw [BitVec.getLsbD_or, stub hs j hj, stub' hs j hj]; rfl

theorem Raised.kept (h : Raised ext p v w) {j : Nat} (hj : v.getLsbD j = true) : w.getLsbD j = true := by
  obtain ⟨m, rfl, -⟩ := h
  rw [BitVec.getLsbD_or, hj, Bool.true_or]

theorem Raised.same (h : Raised ext p v w) {j : Nat} (hj : 3 ≤ j ∨ ext = .stub ∧ j ≠ 2) : w.getLsbD j = v.getLsbD j := by
  obtain ⟨m, rfl, high, stub, -⟩ := h
  have clear : m.getLsbD j = false := hj.elim (high j) fun hs => stub hs.1 j hs.2
  rw [BitVec.getLsbD_or, clear, Bool.or_false]

theorem Raised.timer (h : Raised ext p v w) : w.getLsbD 2 = (v.getLsbD 2 || p) := by
  obtain ⟨m, rfl, -, -, rfl⟩ := h
  exact BitVec.getLsbD_or
end

theorem raised_tick (n : Nat) {s : State} (hw : s.mem.wf = true) :
    Raised s.params.ext (Timer.steps n s.timer).2 s.ifByte (tick n s).ifByte := tick_if n s hw

theorem raised_memWrite {a : Word} (v : Byte) {s : State} (hw : s.mem.wf = true) (ha : a ≠ 0xFF0F) :
    Raised s.params.ext (Timer.steps 4 (routeWrite a v s).timer).2 s.ifByte (memWrite a v s).ifByte :=
  memWrite_if a v s ha hw

/-- A write onto IF stores the byte, which the 4 cycles may then raise. -/
theorem raised_memWrite_if (v : Byte) {s : State} (hw : s.mem.wf = true) :
    ∃ p, Raised s.params.ext p v (memWrite 0xFF0F v s).ifByte := by
  have stored : (routeWrite 0xFF0F v s).ifByte = v := Memory.read_write_same hw _ _
  have h := raised_tick 4 (routeWrite_wf 0xFF0F v s hw)
  rw [stored, routeWrite_params] at h
  exact ⟨_, h⟩

/-- Off IF, the two writes raise it by their 4 cycles each. -/
theorem raised_memWrite2 {a : Word} (v : Word) {s : State} (hw : s.mem.wf = true) (ha : a ≠ 0xFF0F) (ha' : a + 1 ≠ 0xFF0F) :
    Raised s.params.ext ((Timer.steps 4 (routeWrite a (loByte v) s).timer).2 ||
      (Timer.steps 4 (routeWrite (a + 1) (hiByte v) (memWrite a (loByte v) s)).timer).2)
      s.ifByte (memWrite2 a v s).ifByte := by
  have second := raised_memWrite (hiByte v) (memWrite_wf a (loByte v) s hw) ha'
  rw [memWrite_params] at second
  exact (raised_memWrite (loByte v) hw ha).trans second

/-- The byte that falls onto IF is stored there; a low byte there is raised by the high byte's cycles too. -/
theorem raised_memWrite2_if {a : Word} {v : Word} {b : Byte} {s : State} (hw : s.mem.wf = true)
    (hb : a = 0xFF0F ∧ b = loByte v ∨ a + 1 = 0xFF0F ∧ b = hiByte v) :
    ∃ p, Raised s.params.ext p b (memWrite2 a v s).ifByte := by
  have hw' := memWrite_wf a (loByte v) s hw
  rw [memWrite2_eq]
  rcases hb with ⟨rfl, rfl⟩ | ⟨ha, rfl⟩
  · obtain ⟨p, first⟩ := raised_memWrite_if (loByte v) hw
    have second := raised_memWrite (a := 0xFF0F + 1) (hiByte v) hw' (by decide)
    rw [memWrite_params] at second
    exact ⟨_, first.trans second⟩
  · rw [ha]
    simpa only [memWrite_params] using raised_memWrite_if (hiByte v) hw'

/-! Interrupt entry up to its push -/

theorem State.setPc_ifByte (v : Word) (s : State) : (s.setPc v).ifByte = s.ifByte := rfl

/-- The machine as interrupt entry begins to push: 8 idle cycles have passed, the request bit and IME are clear, SP is moved. -/
def beforePush (i : Nat) (s : State) : State :=
  (((tick 8 s).setIf ((tick 8 s).ifByte &&& ~~~(1#8 <<< i))).setIme false).setSp (s.cpu.sp - 2)

theorem enterInterrupt_eq_memWrite2 (i : Nat) (s : State) : enterInterrupt i s =
    (memWrite2 (s.cpu.sp - 2) s.cpu.pc (beforePush i s)).setPc (interruptVector i) := by
  rw [enterInterrupt_eq, push16_eq]
  simp only [State.setIme_sp, State.setIf_sp, tick_cpu, beforePush]

section
variable (i : Nat) (s : State)

theorem beforePush_bytes {k : Nat} (hk : k ≠ 0xFF0F) : (beforePush i s).mem.read k = s.mem.read k :=
  (Memory.read_write_other _ _ _ _ hk).trans (tick_bytes 8 s k hk)
theorem beforePush_cart : (beforePush i s).cart = (tick 8 s).cart := by
  rw [beforePush, State.setSp_cart, State.setIme_cart, setIf_cart]
theorem beforePush_ram : (beforePush i s).cart.ram = s.cart.ram := by rw [beforePush_cart, tick_ram]
theorem beforePush_timer : (beforePush i s).timer = (tick 8 s).timer := by
  rw [beforePush, State.setSp_timer, State.setIme_timer, setIf_timer]
theorem beforePush_params : (beforePush i s).params = s.params := by
  rw [beforePush, State.setSp_params, State.setIme_params, setIf_params, tick_params]
theorem beforePush_backing (a : Word) : backing a (beforePush i s) = backing a s := by
  have cart := beforePush_cart i s
  rw [← tick_backing 8 s a]
  exact backing_congr a (by rw [beforePush_params, tick_params]) (by rw [cart]) (by rw [cart]) (by rw [cart]) (by rw [cart])

theorem beforePush_wf (hw : s.mem.wf = true) : (beforePush i s).mem.wf = true := Memory.write_wf (tick_wf 8 s hw) _ _

theorem getLsbD_clearRequest {v : Byte} (j : Nat) : (v &&& ~~~(1#8 <<< i)).getLsbD j = (v.getLsbD j && decide (j ≠ i)) := by
  by_cases hj : j < 8
  · have bit : (1#8 <<< i).getLsbD j = decide (j = i) := by
      rw [← BitVec.twoPow_eq, BitVec.getLsbD_twoPow]
      simp only [eq_comm (a := i)]
      by_cases h : j = i
      · rw [decide_eq_true h, ← h, decide_eq_true hj]; rfl
      · rw [decide_eq_false h, Bool.and_false]
    rw [BitVec.getLsbD_and, BitVec.getLsbD_not, bit, decide_eq_true hj, Bool.true_and, decide_not]
  · rw [BitVec.getLsbD_of_ge _ j (Nat.le_of_not_lt hj), BitVec.getLsbD_of_ge v j (Nat.le_of_not_lt hj), Bool.false_and]

/-- The 8 idle cycles raise IF, and then the request entered is cleared as it stands (R407). -/
theorem beforePush_ifByte (hw : s.mem.wf = true) (j : Nat) :
    (beforePush i s).ifByte.getLsbD j = ((tick 8 s).ifByte.getLsbD j && decide (j ≠ i)) := by
  have cleared : (beforePush i s).ifByte = (tick 8 s).ifByte &&& ~~~(1#8 <<< i) :=
    Memory.read_write_same (tick_wf 8 s hw) _ _
  rw [cleared, getLsbD_clearRequest]
end

/-- What the entry leaves in IF where it pushes elsewhere: the idle cycles' requests less the one entered, and the push's. -/
theorem enterInterrupt_raised (i : Nat) {s : State} (hw : s.mem.wf = true) (ha : s.cpu.sp - 2 ≠ 0xFF0F)
    (ha' : s.cpu.sp - 2 + 1 ≠ 0xFF0F) :
    Raised s.params.ext ((Timer.steps 4 (routeWrite (s.cpu.sp - 2) (loByte s.cpu.pc) (tick 8 s)).timer).2 ||
      (Timer.steps 4 (routeWrite (s.cpu.sp - 2 + 1) (hiByte s.cpu.pc)
        (memWrite (s.cpu.sp - 2) (loByte s.cpu.pc) (tick 8 s))).timer).2)
      (beforePush i s).ifByte (enterInterrupt i s).ifByte := by
  have h := raised_memWrite2 s.cpu.pc (beforePush_wf i s hw) ha ha'
  rw [beforePush_params, routeWrite_timer_congr _ _ (beforePush_timer i s),
    routeWrite_timer_congr _ _ (memWrite_timer_congr _ _ (beforePush_timer i s))] at h
  rw [enterInterrupt_eq_memWrite2, State.setPc_ifByte]
  exact h

/-- Settles O39: entry is a push (`enterInterrupt_eq_memWrite2`) after changes that touch no byte but IF, and IF is raised, cleared
at the bit entered, and raised again. -/
theorem interruptEntrySavesPc : Obligations.InterruptEntrySavesPc := by
  rintro i s _ a1 _ _ hi hw rfl ha1 rfl rfl _ rfl
  obtain rfl : a1 = s.cpu.sp - 2 + 1 := by rw [ha1]; bv_omega
  have entry := enterInterrupt_eq_memWrite2 i s
  have wf := beforePush_wf i s hw
  have stores := (StoresOnly.refl (beforePush i s)).memWrite2 (s.cpu.sp - 2) s.cpu.pc
  refine ⟨enterInterrupt_cpu i s, ?_, fun k hk h0 h1 => ?_, fun off h0 h1 => ?_, fun k hk => ?_, fun hr off => ?_,
    fun h0 h1 => ?_, fun v hv => ?_⟩
  · rintro u rfl
    exact entry
  · have others : ∀ a ∈ [s.cpu.sp - 2, s.cpu.sp - 2 + 1], backing a (beforePush i s) ≠ .mem k := by
      simpa [beforePush_backing] using ⟨h0, h1⟩
    rw [entry, State.setPc_mem, stores.bytes k hk others, beforePush_bytes i s hk]
  · have others : ∀ a ∈ [s.cpu.sp - 2, s.cpu.sp - 2 + 1], backing a (beforePush i s) ≠ .ram off := by
      simpa [beforePush_backing] using ⟨h0, h1⟩
    rw [entry, State.setPc_cart, stores.ram_bytes off others, beforePush_ram]
  · rw [entry, State.setPc_mem, ← beforePush_backing i s, ← beforePush_backing i s]
    exact ⟨fun hb => memWrite2_mem_lo _ hb wf hk, fun hb => memWrite2_mem_hi _ hb wf hk⟩
  · rw [← beforePush_ram i s] at hr
    rw [entry, State.setPc_cart, ← beforePush_backing i s, ← beforePush_backing i s]
    exact ⟨fun hb => memWrite2_ram_lo _ hb hr, fun hb => memWrite2_ram_hi _ hb hr⟩
  · have idle := raised_tick 8 hw
    have push := enterInterrupt_raised i hw h0 h1
    refine ⟨fun j hji hj => push.kept ?_, fun j hji hj => ?_, fun hj => ?_, ?_⟩
    · rw [beforePush_ifByte i s hw, idle.kept hj, decide_eq_true hji]; rfl
    · rw [push.same hj, beforePush_ifByte i s hw, idle.same hj, decide_eq_true hji, Bool.and_true]
    · rw [push.same hj, beforePush_ifByte i s hw, decide_eq_false (not_not_intro rfl), Bool.and_false]
    · rintro rfl
      rw [push.timer, beforePush_ifByte 2 s hw, decide_eq_false (not_not_intro rfl), Bool.and_false, Bool.false_or]
  · obtain ⟨p, h⟩ := raised_memWrite2_if wf hv
    rw [entry, State.setPc_ifByte]
    exact ⟨fun j hj => h.same (.inl hj), fun j hj => h.kept hj⟩

end Sys2Proof.Machine
end

section
/-! SUPPORT. The timer (spec/61_timer.md): what an edge check does to TIMA and the reload delay, the edge that a cycle makes as a
multiple of the period, and the cycles of a count and of a pending reload (O28 to O31). -/

namespace Sys2Proof.Machine

/-! The edge check (R444, R445) -/

section
variable (t : Timer)

/-- TIMA counts modulo 256: an overflow leaves 0x00, which is 0xFF + 1. -/
theorem Timer.incTima_tima : t.incTima.tima = t.tima + 1 := by
  unfold Timer.incTima
  split
  · next hff => rw [hff]; rfl
  · rfl

/-- An overflow starts the reload's delay. -/
theorem Timer.incTima_reloadDelay : t.incTima.reloadDelay = if t.tima = 0xFF then 4 else t.reloadDelay := by
  unfold Timer.incTima
  split <;> rfl

theorem Timer.edgeCheck_tima : t.edgeCheck.tima = if t.prevSig = true ∧ t.signal = false then t.tima + 1 else t.tima := by
  unfold Timer.edgeCheck
  cases t.prevSig <;> cases t.signal <;> simp [Timer.incTima_tima]

theorem Timer.edgeCheck_reloadDelay : t.edgeCheck.reloadDelay =
    if t.prevSig = true ∧ t.signal = false ∧ t.tima = 0xFF then 4 else t.reloadDelay := by
  unfold Timer.edgeCheck
  cases t.prevSig <;> cases t.signal <;> simp [Timer.incTima_reloadDelay]
end

/-! The four registers (R440, R449 to R453) -/

/-- Settles O30: a read of a timer register is `Timer.read`, which reduces at each of the four addresses. -/
theorem timerReads : Obligations.TimerReads := fun _ => ⟨rfl, rfl, rfl, rfl⟩

/-- Settles O31: DIV and TAC run the edge check on what they store; with the counter cleared the signal is low. -/
theorem timerWrites : Obligations.TimerWrites := by
  refine ⟨fun v s => ?_, fun v s => rfl, fun v s => rfl, fun v s => ?_⟩
  · have low : Timer.signal { s.timer with counter := 0x0000 } = false := by simp [Timer.signal]
    refine ⟨Timer.edgeCheck { s.timer with counter := 0x0000 }, rfl, Timer.edgeCheck_counter _, Timer.edgeCheck_tma _,
      Timer.edgeCheck_tac _, (Timer.edgeCheck_prevSig _).trans low, ?_, ?_⟩
    · rw [Timer.edgeCheck_tima, low]
      simp
    · rw [Timer.edgeCheck_reloadDelay, low]
      simp
  · refine ⟨Timer.edgeCheck { s.timer with tac := v }, rfl, Timer.edgeCheck_counter _, Timer.edgeCheck_tma _,
      Timer.edgeCheck_tac _, Timer.edgeCheck_prevSig _, ?_, ?_⟩
    · rw [Timer.edgeCheck_tima, Timer.edgeCheck_prevSig]
    · rw [Timer.edgeCheck_reloadDelay, Timer.edgeCheck_prevSig]

/-! The period of the selected counter bit (R443, D15) -/

/-- The cycles from one falling edge of the selected bit to the next. -/
def Timer.period (tac : Byte) : Nat := 2 ^ (Timer.selBit tac + 1)

theorem Timer.selBit_cases (tac : Byte) :
    Timer.selBit tac = 9 ∨ Timer.selBit tac = 3 ∨ Timer.selBit tac = 5 ∨ Timer.selBit tac = 7 := by
  unfold Timer.selBit
  split <;> decide

theorem Timer.period_dvd (tac : Byte) : Timer.period tac ∣ 65536 := by
  unfold Timer.period
  rcases Timer.selBit_cases tac with h | h | h | h <;> rw [h] <;> decide

theorem Timer.sixteen_le_period (tac : Byte) : 16 ≤ Timer.period tac := by
  unfold Timer.period
  rcases Timer.selBit_cases tac with h | h | h | h <;> rw [h] <;> decide

/-- The counter's wrap at 65536 is a multiple of every period. -/
theorem Timer.add_mod_period (tac : Byte) (c : Word) (n : Nat) :
    (c + BitVec.ofNat 16 n).toNat % Timer.period tac = (c.toNat % Timer.period tac + n) % Timer.period tac := by
  rw [BitVec.toNat_add, BitVec.toNat_ofNat, Nat.add_mod_mod, Nat.mod_mod_of_dvd _ (Timer.period_dvd tac), Nat.mod_add_mod]

/-- The selected bit falls when the counter comes to a multiple of the period. -/
theorem Timer.selBit_falls_iff (tac : Byte) (c : Word) :
    c.getLsbD (Timer.selBit tac) = true ∧ (c + 1).getLsbD (Timer.selBit tac) = false ↔
      c.toNat % Timer.period tac + 1 = Timer.period tac := by
  have hc := c.isLt
  unfold Timer.period
  rcases Timer.selBit_cases tac with h | h | h | h <;> rw [h] <;>
    simp only [BitVec.getLsbD, BitVec.toNat_add, Nat.testBit_eq_decide_div_mod_eq, decide_eq_true_eq, decide_eq_false_iff_not,
      BitVec.reduceToNat, Nat.reduceAdd, Nat.reducePow] <;> omega

/-! One cycle (R446, R447) -/

/-- Whether the next cycle's increment makes a falling edge. -/
def Timer.falls (t : Timer) : Bool := t.prevSig && !Timer.signal { t with counter := t.counter + 1 }

section
variable {t : Timer}

theorem Timer.falls_of_disabled (hedge : t.prevSig = t.signal) (hoff : t.tac.getLsbD 2 = false) : t.falls = false := by
  rw [Timer.falls, hedge, Timer.signal, hoff]
  rfl

theorem Timer.falls_of_enabled (hedge : t.prevSig = t.signal) (hon : t.tac.getLsbD 2 = true) :
    t.falls = decide (t.counter.toNat % Timer.period t.tac + 1 = Timer.period t.tac) := by
  simp only [← Timer.selBit_falls_iff, Timer.falls, hedge, Timer.signal, hon, Bool.true_and, Bool.decide_and, Bool.decide_eq_true,
    Bool.decide_eq_false]

theorem Timer.countdown_of_none (h : t.reloadDelay = 0) : t.countdown = (t, false) := by
  simp only [Timer.countdown, h]

theorem Timer.countdown_of_due (h : t.reloadDelay = 1) : t.countdown = ({ t with reloadDelay := 0, tima := t.tma }, true) := by
  simp only [Timer.countdown, h]

theorem Timer.countdown_of_pending {n : Nat} (h : t.reloadDelay = n + 2) :
    t.countdown = ({ t with reloadDelay := n + 1 }, false) := by
  simp only [Timer.countdown, h]

theorem Timer.cycle_eq (t : Timer) : t.cycle =
    (Timer.edgeCheck { t.countdown.1 with counter := t.countdown.1.counter + 1 }, t.countdown.2) := rfl

/-- A countdown leaves the edge that the cycle is about to make. -/
theorem Timer.falls_countdown (t : Timer) : t.countdown.1.falls = t.falls := by
  unfold Timer.countdown
  split <;> rfl

theorem Timer.cycle_tima (t : Timer) :
    t.cycle.1.tima = if t.falls then t.countdown.1.tima + 1 else t.countdown.1.tima := by
  rw [Timer.cycle_eq, Timer.edgeCheck_tima, ← Timer.falls_countdown]
  simp [Timer.falls]

theorem Timer.cycle_reloadDelay (t : Timer) : t.cycle.1.reloadDelay =
    if t.falls ∧ t.countdown.1.tima = 0xFF then 4 else t.countdown.1.reloadDelay := by
  rw [Timer.cycle_eq, Timer.edgeCheck_reloadDelay, ← Timer.falls_countdown]
  simp [Timer.falls, and_assoc]

/-! Several cycles (R448) -/

/-- With the timer disabled no cycle makes an edge, and nothing is counted. -/
theorem Timer.steps_of_disabled (n : Nat) (hedge : t.prevSig = t.signal) (hdelay : t.reloadDelay = 0)
    (hoff : t.tac.getLsbD 2 = false) : (Timer.steps n t).1.tima = t.tima ∧ (Timer.steps n t).2 = false := by
  induction n generalizing t with
  | zero => exact ⟨rfl, rfl⟩
  | succ n ih =>
    have hfalls := Timer.falls_of_disabled hedge hoff
    have htima : t.cycle.1.tima = t.tima := by rw [Timer.cycle_tima, hfalls, Timer.countdown_of_none hdelay]; rfl
    have hdelay' : t.cycle.1.reloadDelay = 0 := by
      rw [Timer.cycle_reloadDelay, hfalls, Timer.countdown_of_none hdelay, ← hdelay]; rfl
    obtain ⟨tima, req⟩ := ih (Timer.cycle_edge t) hdelay' (by rwa [Timer.cycle_tac])
    rw [Timer.steps_succ, Timer.cycle_request, hdelay, tima, htima, req]
    exact ⟨rfl, rfl⟩

/-- The multiples of a period passed: the next cycle comes to one, or moves on in the period. -/
theorem Timer.phase_count {p q : Nat} (n : Nat) (hq : q < p) :
    (if q + 1 = p then 1 else 0) + ((q + 1) % p + n) / p = (q + (n + 1)) / p := by
  split
  · next h => rw [h, Nat.mod_self, show q + (n + 1) = p + n by omega, Nat.add_div_left _ (by omega), Nat.zero_add, Nat.add_comm]
  · next h => rw [Nat.mod_eq_of_lt (by omega), Nat.zero_add, Nat.add_assoc, Nat.add_comm 1 n]

/-- One cycle of an enabled timer whose TIMA has room for the edge. -/
theorem Timer.cycle_counts (hedge : t.prevSig = t.signal) (hdelay : t.reloadDelay = 0) (hon : t.tac.getLsbD 2 = true)
    {k : Nat} (hk : k = if t.counter.toNat % Timer.period t.tac + 1 = Timer.period t.tac then 1 else 0)
    (hroom : t.tima.toNat + k ≤ 255) :
    t.cycle.1.tima.toNat = t.tima.toNat + k ∧ t.cycle.1.reloadDelay = 0 := by
  rw [Timer.cycle_tima, Timer.cycle_reloadDelay, Timer.falls_of_enabled hedge hon, Timer.countdown_of_none hdelay]
  subst hk
  split at hroom
  · next h =>
    have room : t.tima ≠ 0xFF := fun e => absurd (e ▸ hroom) (by decide)
    simp only [h, decide_true, if_true, true_and, if_neg room]
    exact ⟨by rw [BitVec.toNat_add]; exact Nat.mod_eq_of_lt (by simp; omega), hdelay⟩
  · next h =>
    simp only [h, decide_false, Bool.false_eq_true, if_false, false_and]
    exact ⟨rfl, hdelay⟩

/-- While TIMA does not overflow, it counts the multiples of the period that the counter passes. -/
theorem Timer.steps_of_enabled (n : Nat) (hedge : t.prevSig = t.signal) (hdelay : t.reloadDelay = 0)
    (hon : t.tac.getLsbD 2 = true)
    (hroom : t.tima.toNat + (t.counter.toNat % Timer.period t.tac + n) / Timer.period t.tac ≤ 255) :
    (Timer.steps n t).1.tima.toNat = t.tima.toNat + (t.counter.toNat % Timer.period t.tac + n) / Timer.period t.tac ∧
    (Timer.steps n t).2 = false := by
  have hlt : t.counter.toNat % Timer.period t.tac < Timer.period t.tac :=
    Nat.mod_lt _ (Nat.lt_of_lt_of_le (by decide) (Timer.sixteen_le_period t.tac))
  induction n generalizing t with
  | zero =>
    rw [Nat.add_zero, Nat.div_eq_of_lt hlt]
    exact ⟨rfl, rfl⟩
  | succ n ih =>
    rw [← Timer.phase_count n hlt, ← Nat.add_assoc] at hroom ⊢
    obtain ⟨tima, delay⟩ := Timer.cycle_counts hedge hdelay hon rfl (Nat.le_of_add_right_le hroom)
    have phase : t.cycle.1.counter.toNat % Timer.period t.tac =
        (t.counter.toNat % Timer.period t.tac + 1) % Timer.period t.tac := by
      rw [Timer.cycle_counter]
      exact Timer.add_mod_period t.tac t.counter 1
    have rest := ih (t := t.cycle.1) (Timer.cycle_edge t) delay (by rwa [Timer.cycle_tac])
    rw [Timer.cycle_tac, phase, tima] at rest
    obtain ⟨count, req⟩ := rest hroom (Nat.mod_lt _ (by omega))
    rw [Timer.steps_succ, Timer.cycle_request, hdelay, req]
    exact ⟨count, rfl⟩

/-- A reload still pending after `k` cycles, none of which makes an edge, has left TIMA and requested nothing. -/
theorem Timer.steps_of_pending (k d : Nat) (hedge : t.prevSig = t.signal) (hon : t.tac.getLsbD 2 = true)
    (hphase : t.counter.toNat % Timer.period t.tac + k < Timer.period t.tac) (hdelay : t.reloadDelay = k + (d + 1)) :
    (Timer.steps k t).1.tima = t.tima ∧ (Timer.steps k t).1.reloadDelay = d + 1 ∧ (Timer.steps k t).2 = false := by
  induction k generalizing t with
  | zero => exact ⟨rfl, by rw [Timer.steps_zero, hdelay, Nat.zero_add], rfl⟩
  | succ k ih =>
    have hfalls : t.falls = false := by
      rw [Timer.falls_of_enabled hedge hon]
      exact decide_eq_false (by omega)
    have hdelay' : t.reloadDelay = (k + d) + 2 := by omega
    have tima : t.cycle.1.tima = t.tima := by rw [Timer.cycle_tima, hfalls, Timer.countdown_of_pending hdelay']; rfl
    have delay : t.cycle.1.reloadDelay = k + (d + 1) := by
      rw [Timer.cycle_reloadDelay, hfalls, Timer.countdown_of_pending hdelay']; rfl
    have phase : t.cycle.1.counter.toNat % Timer.period t.tac = t.counter.toNat % Timer.period t.tac + 1 := by
      rw [Timer.cycle_counter]
      exact (Timer.add_mod_period t.tac t.counter 1).trans (Nat.mod_eq_of_lt (by omega))
    obtain ⟨tima', delay', req⟩ := ih (t := t.cycle.1) (Timer.cycle_edge t) (by rwa [Timer.cycle_tac])
      (by rw [Timer.cycle_tac, phase]; omega) delay
    rw [Timer.steps_succ, Timer.cycle_request, hdelay', req]
    exact ⟨tima'.trans tima, delay', rfl⟩

/-- The cycle that finds the delay at 1 reloads TIMA and requests the interrupt, where it makes no edge. -/
theorem Timer.steps_of_due (k : Nat) (hedge : t.prevSig = t.signal) (hon : t.tac.getLsbD 2 = true)
    (hphase : t.counter.toNat % Timer.period t.tac + (k + 1) < Timer.period t.tac) (hdelay : t.reloadDelay = k + 1) :
    (Timer.steps (k + 1) t).1.tima = t.tma ∧ (Timer.steps (k + 1) t).2 = true := by
  obtain ⟨-, delay, -⟩ := Timer.steps_of_pending k 0 hedge hon (by omega) hdelay
  have hfalls : (Timer.steps k t).1.falls = false := by
    rw [Timer.falls_of_enabled (Timer.steps_edge k t hedge) (by rwa [Timer.steps_tac]), Timer.steps_tac, Timer.steps_counter,
      Timer.add_mod_period, Nat.mod_eq_of_lt (by omega)]
    exact decide_eq_false (by omega)
  rw [Timer.steps_add, Timer.steps_succ, Timer.cycle_request, delay, Timer.steps_zero, Timer.cycle_tima, hfalls,
    Timer.countdown_of_due delay]
  exact ⟨Timer.steps_tma k t, Bool.or_true _⟩
end

/-- Settles O28: the enabled timer by the count above, whose period is the statement's row by row, and the disabled one by the
edges that it lacks. -/
theorem timaCountsFallingEdges : Obligations.TimaCountsFallingEdges := by
  refine ⟨fun t n hedge hdelay hon p hp hroom => ?_, fun t n hedge hdelay hoff => Timer.steps_of_disabled n hedge hdelay hoff⟩
  obtain rfl : p = Timer.period t.tac := by
    rw [hp, Timer.period, Timer.selBit]
    generalize t.tac.toNat % 4 = select
    match select with
    | 0 | 1 | 2 | _ + 3 => rfl
  exact Timer.steps_of_enabled n hedge hdelay hon hroom

/-! The overflow (R445, R446) -/

/-- The edge that takes TIMA from 0xFF leaves 0x00, the delay at 4 and the counter at a multiple of the period. -/
theorem Timer.cycle_overflows {t : Timer} (hff : t.tima = 0xFF) (hdelay : t.reloadDelay = 0) (hedge : t.prevSig = true)
    (hon : t.tac.getLsbD 2 = true) (hhigh : t.counter.getLsbD (Timer.selBit t.tac) = true)
    (hlow : (t.counter + 1).getLsbD (Timer.selBit t.tac) = false) :
    t.cycle.1.tima = 0x00 ∧ t.cycle.1.reloadDelay = 4 ∧ t.cycle.1.counter.toNat % Timer.period t.tac = 0 := by
  have hfalls : t.falls = true := by
    rw [Timer.falls, Timer.signal, hedge, hon, hlow]
    rfl
  have phase := (Timer.selBit_falls_iff t.tac t.counter).1 ⟨hhigh, hlow⟩
  rw [Timer.cycle_tima, Timer.cycle_reloadDelay, hfalls, Timer.countdown_of_none hdelay, Timer.cycle_counter]
  refine ⟨by rw [hff]; rfl, if_pos ⟨rfl, hff⟩, (Timer.add_mod_period t.tac t.counter 1).trans ?_⟩
  rw [phase, Nat.mod_self]

/-- With the stub, passing time changes IF by the Timer's request alone (R446). -/
theorem tick_ifByte_stub {s : State} (hw : s.mem.wf = true) (hs : s.params.ext = .stub) (n : Nat) :
    (tick n s).ifByte = if (Timer.steps n s.timer).2 then s.ifByte ||| 0x04 else s.ifByte := by
  rw [State.ifByte, tick_mem_stub n s hs]
  split
  · exact Memory.read_write_same hw _ _
  · rfl

/-- Settles O29: the overflow, up to three cycles of the pending reload, and the fourth that it falls due in; a period is too long
for another edge meanwhile. -/
theorem timaOverflowReloads : Obligations.TimaOverflowReloads := by
  intro s hw hs hff hdelay hedge hon hhigh hlow
  obtain ⟨tima, delay, phase⟩ := Timer.cycle_overflows hff hdelay hedge hon hhigh hlow
  have long := Timer.sixteen_le_period s.timer.tac
  rw [← Timer.cycle_tac] at hon phase long
  have first : s.timer.cycle.2 = false := by rw [Timer.cycle_request, hdelay]; rfl
  refine ⟨fun j hj => ?_, ?_⟩
  · obtain ⟨tima', -, req⟩ := Timer.steps_of_pending j (3 - j) (Timer.cycle_edge s.timer) hon (by omega) (by omega)
    rw [tick_ifByte_stub hw hs, tick_timer, Nat.add_comm, Timer.steps_succ, first, req]
    exact ⟨tima'.trans tima, rfl⟩
  · obtain ⟨reload, req⟩ := Timer.steps_of_due 3 (Timer.cycle_edge s.timer) hon (by omega) delay
    rw [tick_ifByte_stub hw hs, tick_timer, Timer.steps_succ 4, req, Bool.or_true]
    exact ⟨reload.trans (Timer.cycle_tma s.timer), rfl⟩

end Sys2Proof.Machine
end

section
/-! SUPPORT. The cartridge (spec/62_cartridge.md): the ROM and the parameters through a step, the commands as numbers, and the clock
of a timer cartridge (O15, O32, O33, O34, O37, O38). -/

namespace Sys2Proof.Machine

/-! The parameters through a step: the ROM image and the kind stand among them (R476) -/

@[simp] theorem fetchRest_params (p : Plan) (s : State) : (fetchRest p s).2.params = s.params := by
  cases p <;> simp [fetchRest]

@[simp] theorem fetchInstr_params (s : State) : (fetchInstr s).2.params = s.params := by
  rw [fetchInstr_eq, fetchRest_params, fetch8_params]

@[simp] theorem interruptCheck_params (s : State) : (interruptCheck s).params = s.params := by
  rcases interruptCheck_cases s with ⟨i, _, _, _, _, e⟩ | e | e <;> rw [e]
  · rw [enterInterrupt_params, State.setHalted_params]
  · rw [State.setHalted_params]

theorem step_params {s t : State} (h : step s = .next t) : t.params = s.params := by
  obtain ⟨-, ⟨-, rfl⟩ | ⟨-, u, hu, hend⟩⟩ := step_cases h
  · rw [interruptCheck_params, tick_params, betweenSteps_params]
  · have hup : u.params = s.params := by
      rw [(exec_storesOnly hu).params, fetchInstr_params, betweenSteps_params]
    rcases hend with ⟨-, rfl⟩ | ⟨-, rfl⟩
    · rw [interruptCheck_params, hup]
    · exact hup

/-! The commands (R476, R480 to R483, R490 to R493, R505) -/

/-- A write to a ROM address is a command to the cartridge. -/
theorem routeWrite_command {a : Word} (v : Byte) (s : State) (h : a.toNat < 0x8000) :
    routeWrite a v s = { s with cart := s.cart.command s.params.cartKind a v } := by
  unfold routeWrite
  rcases Nat.lt_or_ge a.toNat 0x4000 with hb | hb
  · rw [region_unique .romFixed a hb]
  · rw [region_unique .romBanked a ⟨hb, h⟩]

/-- Settles O15: a base cartridge has no commands, and neither writes nor steps change the parameters. -/
theorem romNeverChanges : Obligations.RomNeverChanges :=
  ⟨fun s a v hk ha => by rw [routeWrite_command v s ha, hk, Cart.command],
    fun s a v => routeWrite_params a v s, fun _ _ h => step_params h⟩

theorem and_mask_toNat {w : Nat} (v : BitVec w) (n : Nat) {m : BitVec w} (hm : m.toNat = 2 ^ n - 1) :
    (v &&& m).toNat = v.toNat % 2 ^ n := by
  rw [BitVec.toNat_and, hm, Nat.and_two_pow_sub_one_eq_mod]

theorem bank_high_bits_toNat : ∀ bank : BitVec 7, (bank &&& 0x60).toNat = 2 ^ 5 * (bank.toNat / 32) := by decide

theorem zero_replaced_toNat (bank : BitVec 7) : (if bank = 0 then 1 else bank).toNat = if bank.toNat = 0 then 1 else bank.toNat := by
  rw [apply_ite BitVec.toNat]
  simp only [← BitVec.toNat_inj]
  rfl

theorem mbc1BankLow_toNat (bank : BitVec 7) (v : Byte) : (mbc1BankLow bank v).toNat =
    bank.toNat / 32 * 32 + (if v.toNat % 32 = 0 then 1 else v.toNat % 32) := by
  have low : ((v &&& 0x1F).setWidth 7).toNat = v.toNat % 32 := by
    rw [BitVec.toNat_setWidth, and_mask_toNat v 5 rfl]
    omega
  have below : (if v.toNat % 32 = 0 then 1 else v.toNat % 32) < 2 ^ 5 := by split <;> omega
  rw [mbc1BankLow, BitVec.toNat_or, bank_high_bits_toNat, zero_replaced_toNat, low, ← Nat.two_pow_add_eq_or_of_lt below]
  omega

theorem mbc1BankHigh_toNat (bank : BitVec 7) (v : Byte) :
    (mbc1BankHigh bank v).toNat = bank.toNat % 32 + 32 * (v.toNat % 4) := by
  have high : ((v &&& 0x03).setWidth 7 <<< 5).toNat = 2 ^ 5 * (v.toNat % 4) := by
    rw [BitVec.toNat_shiftLeft, BitVec.toNat_setWidth, and_mask_toNat v 2 rfl, Nat.shiftLeft_eq]
    omega
  rw [mbc1BankHigh, BitVec.toNat_or, high, and_mask_toNat bank 5 rfl, Nat.or_comm,
    ← Nat.two_pow_add_eq_or_of_lt (Nat.mod_lt _ (by decide)), Nat.add_comm]

theorem mbc3Bank_toNat (v : Byte) : (mbc3Bank v).toNat = if v.toNat % 128 = 0 then 1 else v.toNat % 128 := by
  rw [mbc3Bank, zero_replaced_toNat, BitVec.toNat_setWidth]

/-- Settles O32: each range of the MBC1 commands, and its bank as a number. -/
theorem mbc1Commands : Obligations.Mbc1Commands := by
  intro s a v hk
  have hcommand (ha : a.toNat < 0x8000) := routeWrite_command v s ha
  rw [hk] at hcommand
  refine ⟨fun ha => ?_, fun h h' => ⟨_, ?_, mbc1BankLow_toNat s.cart.romBankNum v⟩,
    fun h h' => ⟨_, ?_, mbc1BankHigh_toNat s.cart.romBankNum v⟩⟩
  · rw [hcommand (by omega), Cart.command]
    rcases ha with ha | ⟨h, h'⟩
    · rw [if_pos (by omega)]
    · rw [if_neg (by omega), if_neg (by omega), if_neg (by omega)]
  · rw [hcommand (by omega), Cart.command, if_neg (by omega), if_pos (by omega)]
  · rw [hcommand (by omega), Cart.command, if_neg (by omega), if_neg (by omega), if_pos (by omega)]

/-! MBC3's commands are one up to the select register; only a timer cartridge has RTC registers and a latch -/

section
variable {kind : CartKind} {a : Word} (v : Byte) (c : Cart) (hk : kind = .mbc3 ∨ kind = .mbc3Timer)
include hk

theorem Cart.command_enable (ha : a.toNat < 0x2000) :
    c.command kind a v = { c with ramEnabled := decide (v &&& 0x0F = 0x0A) } := by
  rcases hk with rfl | rfl <;> rw [Cart.command, if_pos ha]

theorem Cart.command_bank_mbc3 (h : 0x2000 ≤ a.toNat) (h' : a.toNat < 0x4000) :
    c.command kind a v = { c with romBankNum := mbc3Bank v } := by
  rcases hk with rfl | rfl <;> rw [Cart.command, if_neg (by omega), if_pos h']

theorem Cart.command_select (h : 0x4000 ≤ a.toNat) (h' : a.toNat < 0x6000) :
    c.command kind a v = c.select (decide (kind = .mbc3Timer)) v := by
  rcases hk with rfl | rfl <;> rw [Cart.command, if_neg (by omega), if_neg (by omega), if_pos h'] <;> rfl
end

theorem Cart.command_latch {a : Word} (v : Byte) (c : Cart) (h : 0x6000 ≤ a.toNat) : c.command .mbc3Timer a v = c.latch v := by
  rw [Cart.command, if_neg (by omega), if_neg (by omega), if_neg (by omega)]

theorem Cart.command_no_latch {a : Word} (v : Byte) (c : Cart) (h : 0x6000 ≤ a.toNat) : c.command .mbc3 a v = c := by
  rw [Cart.command, if_neg (by omega), if_neg (by omega), if_neg (by omega)]

section
variable {c : Cart} {v : Byte}

theorem Cart.select_ramBank {timer : Bool} {bank : Fin 4} (hv : v.toNat = bank.val) :
    c.select timer v = { c with ramBank := bank, rtcMapped := false } := by
  have hle : v.toNat ≤ 0x03 := by omega
  have hbank : (⟨v.toNat, by omega⟩ : Fin 4) = bank := Fin.ext hv
  rw [Cart.select, dif_pos hle, hbank]

theorem Cart.select_rtc {i : Fin 5} (hv : v.toNat = 0x08 + i.val) :
    c.select true v = { c with rtcSel := i, rtcMapped := true } := by
  have hle : ¬v.toNat ≤ 0x03 := by omega
  have hin : 0x08 ≤ v.toNat ∧ v.toNat ≤ 0x0C := by omega
  have hi : (⟨v.toNat - 0x08, by omega⟩ : Fin 5) = i := Fin.ext (by simp only [hv]; omega)
  rw [Cart.select, dif_neg hle, dif_pos hin, if_pos rfl, hi]

/-- Every other value, and an RTC register's number without a timer, selects nothing (D23). -/
theorem Cart.select_ignored {timer : Bool}
    (hv : 4 ≤ v.toNat ∧ v.toNat ≤ 7 ∨ 0x0D ≤ v.toNat ∨ 0x08 ≤ v.toNat ∧ v.toNat ≤ 0x0C ∧ timer = false) :
    c.select timer v = c := by
  rw [Cart.select, dif_neg (by omega)]
  split
  · rcases hv with h | h | ⟨-, -, rfl⟩
    · omega
    · omega
    · rfl
  · rfl
end

/-- The enable command reads a number's low nibble (R490). -/
theorem low_nibble_eq_ten_iff (v : Byte) : v &&& 0x0F = 0x0A ↔ v.toNat % 16 = 0x0A := by
  rw [← BitVec.toNat_inj, and_mask_toNat v 4 rfl]
  rfl

/-- Settles O33: each range of the MBC3 commands, and the select register value by value. -/
theorem mbc3Commands : Obligations.Mbc3Commands := by
  intro s a v hk
  have hcommand (ha : a.toNat < 0x8000) := routeWrite_command v s ha
  refine ⟨fun h => ?_, fun h h' => ⟨_, ?_, mbc3Bank_toNat v⟩, fun h h' => ?_, fun h h' hmbc3 => ?_⟩
  · rw [hcommand (by omega), Cart.command_enable v s.cart hk (by omega)]
    simp only [low_nibble_eq_ten_iff]
  · rw [hcommand (by omega), Cart.command_bank_mbc3 v s.cart hk h (by omega)]
  · rw [hcommand (by omega), Cart.command_select v s.cart hk h (by omega)]
    refine ⟨fun bank hv => by rw [Cart.select_ramBank hv], fun i hv ht => ?_, fun hv => ?_⟩
    · rw [decide_eq_true ht, Cart.select_rtc hv]
    · rw [Cart.select_ignored]
      rcases hv with hv | hv | ⟨hv, hv', ht⟩
      exacts [.inl hv, .inr (.inl hv), .inr (.inr ⟨hv, hv', by rw [ht]; rfl⟩)]
  · rw [hcommand (by omega), hmbc3, Cart.command_no_latch v s.cart h]

/-- Settles O34: the latch's four cases, and the control fields that passing time leaves. -/
theorem rtcLatchIsAtomic : Obligations.RtcLatchIsAtomic := by
  refine ⟨fun s a v hk h h' => ?_, fun n s => ?latched⟩
  case latched =>
    obtain ⟨-, -, -, -, -, -, latched⟩ := tick_control n s
    exact latched
  rw [routeWrite_command v s (by omega), hk, Cart.command_latch v s.cart h, Cart.latch]
  refine ⟨?_, ?_, ?_, fun h0 h1 => ?_⟩
  · rintro rfl
    rw [if_pos rfl]
  · rintro rfl ha
    rw [if_neg (by decide), if_pos ⟨rfl, ha⟩]
  · rintro rfl ha
    rw [if_neg (by decide), if_neg (by simp [ha]), ← ha]
  · rw [if_neg h0, if_neg fun h => h1 h.1]

/-! The clock (R496, R500 to R504) -/

/-- In wallclock mode passing time catches the clock up by a free number of seconds, read before anything else is drawn (R504). -/
theorem tick_cart_wallclock {s : State} (hk : s.params.cartKind = .mbc3Timer) (hh : s.cart.rtcLive.halted = false)
    (hm : s.params.rtcMode = .wallclock) (n : Nat) : (tick n s).cart = s.cart.catchUp (Config.wallclockSeconds s.draws) := by
  rw [tick_cart, cartStep]
  simp only [hk, hh, hm]
  rfl

/-- Without a timer, or halted, the cartridge does not notice time (R502). -/
theorem tick_cart_still {s : State} (h : s.params.cartKind ≠ .mbc3Timer ∨ s.cart.rtcLive.halted = true) (n : Nat) :
    (tick n s).cart = s.cart := by
  rw [tick_cart, cartStep]
  cases hk : s.params.cartKind with
  | romOnly | mbc1 | mbc3 => simp
  | mbc3Timer =>
    have hh : s.cart.rtcLive.halted = true := h.resolve_left (not_not_intro hk)
    simp [hh]

/-- Settles O38: the three cases of `cartStep`, and the default period. -/
theorem rtcRunsOnCycles : Obligations.RtcRunsOnCycles := by
  refine ⟨fun n s h => tick_cart_still h n, fun n s hk hh hm _ => ?_, fun n s hk hh hm k hkk => ?_, rfl⟩
  · rw [tick_cart_system hm, if_pos ⟨hk, hh⟩, Cart.clock]
  · rw [tick_cart_wallclock hk hh hm, hkk, Cart.catchUp]

/-! One second (R501): the carries keep the registers in range, and the total of seconds counts modulo 512 days -/

theorem Rtc.days_lt (r : Rtc) : r.days < 512 := by
  have := r.daysLower.isLt
  unfold Rtc.days
  omega

/-- Of the high day byte a carry keeps bits 6 and 7, and bit 0 is the ninth bit of the count; the wrap sets bit 7. -/
theorem daysUpper_carry : ∀ u : Byte,
    ((u ||| 0x80) &&& 0xC0).toNat % 2 = 0 ∧ ((u ||| 0x80) &&& 0xC0).getLsbD 7 = true ∧
    ∀ k : Fin 2, ((u &&& 0xC0) ||| BitVec.ofNat 8 k).toNat % 2 = k ∧
      ((u &&& 0xC0) ||| BitVec.ofNat 8 k).getLsbD 7 = u.getLsbD 7 := by
  decide

/-- A day carries into nine bits and wraps at 512, where the overflow flag is set (R501). -/
theorem Rtc.tickDay_counts (r : Rtc) : r.tickDay.days = (r.days + 1) % 512 ∧
    r.tickDay.daysUpper.getLsbD 7 = (r.daysUpper.getLsbD 7 || decide (r.days + 1 = 512)) := by
  have hdays := r.days_lt
  obtain ⟨wrapLow, wrapFlag, carry⟩ := daysUpper_carry r.daysUpper
  unfold Rtc.tickDay
  dsimp only
  split
  · have hwrap : r.days + 1 = 512 := by omega
    rw [hwrap, wrapFlag, Rtc.days, wrapLow]
    exact ⟨rfl, (Bool.or_true _).symm⟩
  · have hroom : r.days + 1 < 512 := by omega
    obtain ⟨low, flag⟩ := carry ⟨(r.days + 1) / 256, by omega⟩
    rw [flag, decide_eq_false (by omega), Bool.or_false, Nat.mod_eq_of_lt hroom, Rtc.days, low, BitVec.toNat_ofNat]
    exact ⟨Nat.mod_add_div _ _, rfl⟩

theorem byte_succ_toNat {v : Byte} {n : Nat} (h : v.toNat + 1 < n) (hn : n ≤ 256) : (v + 1).toNat = v.toNat + 1 := by
  rw [BitVec.toNat_add]
  exact Nat.mod_eq_of_lt (by simp; omega)

theorem Rtc.total_lt {r : Rtc} (h : r.inRange) : r.total < 512 * 86400 := by
  have hdays := r.days_lt
  obtain ⟨hs, hm, hh⟩ := h
  unfold Rtc.total
  omega

/-- `r'` is `n` seconds after `r`: in range, the total modulo 512 days, and the overflow flag set where the total wraps. -/
def Rtc.Counts (n : Nat) (r r' : Rtc) : Prop :=
  r'.inRange ∧ r'.total = (r.total + n) % (512 * 86400) ∧
  r'.daysUpper.getLsbD 7 = (r.daysUpper.getLsbD 7 || decide (512 * 86400 ≤ r.total + n))

/-- Without a wrap the total counts on and the high day byte stays. -/
theorem Rtc.Counts.of_carry {n : Nat} {r r' : Rtc} (range : r'.inRange) (total : r'.total = r.total + n)
    (upper : r'.daysUpper = r.daysUpper) : Rtc.Counts n r r' := by
  have hlt := Rtc.total_lt range
  rw [total] at hlt
  refine ⟨range, by rw [total, Nat.mod_eq_of_lt hlt], ?_⟩
  rw [upper, decide_eq_false (Nat.not_le_of_lt hlt), Bool.or_false]

theorem Rtc.Counts.trans {m n : Nat} {r r' r'' : Rtc} (h : Rtc.Counts m r r') (h' : Rtc.Counts n r' r'')
    (hr : r.total < 512 * 86400) : Rtc.Counts (m + n) r r'' := by
  obtain ⟨-, total, overflow⟩ := h
  obtain ⟨range, total', overflow'⟩ := h'
  refine ⟨range, by rw [total', total, Nat.mod_add_mod, Nat.add_assoc], ?_⟩
  rw [overflow', overflow, Bool.or_assoc, ← Bool.decide_or]
  congr 2
  exact propext (by omega)

/-- One second carries as far as its registers are full (R501). -/
theorem Rtc.tickSecond_counts {r : Rtc} (h : r.inRange) : Rtc.Counts 1 r r.tickSecond := by
  obtain ⟨hs, hm, hh⟩ := h
  have zero : (0 : Byte).toNat = 0 := rfl
  unfold Rtc.tickSecond
  split
  · next hs' =>
    have succ := byte_succ_toNat hs' (by decide)
    refine .of_carry ⟨by rw [succ]; exact hs', hm, hh⟩ ?_ rfl
    simp only [Rtc.total, Rtc.days, succ]
    omega
  · split
    · next hm' =>
      have succ := byte_succ_toNat hm' (by decide)
      refine .of_carry ⟨by simp, by rw [succ]; exact hm', hh⟩ ?_ rfl
      simp only [Rtc.total, Rtc.days, succ, zero]
      omega
    · split
      · next hh' =>
        have succ := byte_succ_toNat hh' (by decide)
        refine .of_carry ⟨by simp, by simp, by rw [succ]; exact hh'⟩ ?_ rfl
        simp only [Rtc.total, Rtc.days, succ, zero]
        omega
      · obtain ⟨days, flag⟩ := Rtc.tickDay_counts { r with seconds := 0, minutes := 0, hours := 0 }
        have same : Rtc.days { r with seconds := 0, minutes := 0, hours := 0 } = r.days := rfl
        have hdays := r.days_lt
        rw [same] at days flag
        refine ⟨by simp [Rtc.inRange], ?_, ?_⟩
        · rw [Rtc.total, days]
          simp only [Rtc.total, Rtc.tickDay_seconds, Rtc.tickDay_minutes, Rtc.tickDay_hours, zero]
          omega
        · rw [flag, Rtc.total]
          congr 2
          exact propext (by omega)

theorem Rtc.tickSeconds_counts (n : Nat) {r : Rtc} (h : r.inRange) : Rtc.Counts n r (Rtc.tickSeconds n r) := by
  induction n generalizing r with
  | zero => exact .of_carry h rfl rfl
  | succ n ih =>
    have first := Rtc.tickSecond_counts h
    have both := first.trans (ih first.1) (Rtc.total_lt h)
    rwa [Nat.add_comm] at both

/-- Settles O37: the count of seconds, the halt bit through the carries, and a seconds register out of range as R501 has it. -/
theorem rtcSecondCounts : Obligations.RtcSecondCounts := by
  refine ⟨fun n r h => ?_, fun r hs hm => ?_⟩
  · obtain ⟨range, total, overflow⟩ := Rtc.tickSeconds_counts n h
    exact ⟨range, total, Rtc.tickSeconds_halted n r, overflow⟩
  · rw [Rtc.tickSecond, if_neg (by omega), if_pos hm]

end Sys2Proof.Machine
end
